-- ==== Sys2Proof/Word.lean ====
section
/-! DEFINITION. The word types of the model and the numberings of the part's records. -/

namespace Sys2Proof

/-- One byte of a frame (R154: each field occupies whole bytes). -/
abbrev Byte := BitVec 8

/-- A tick time: a value of the 32-bit time counter (R121). -/
abbrev Tick := BitVec 32

/-- An instant on the reference clock, in whole microseconds (log entry 1). -/
abbrev Instant := Nat

/-- A source id 0..31 (R1). -/
abbrev SourceId := Fin 32

/-- An event line 0..23 (R105); line `n` belongs to source `n`. -/
abbrev LineId := Fin 24

/-- A timer 0..7 (R126); timer `k` belongs to source `24 + k`. -/
abbrev TimerId := Fin 8

/-- A session 0..4 of the link; 0 is the management session. -/
abbrev SessId := Fin 5

/-- A delivery session: the value `i` stands for the session numbered `i + 1`. -/
abbrev Deliv := Fin 4

/-- One of the four receive slots (R160). -/
abbrev SlotId := Fin 4

/-- A priority 0..15; a larger number is a higher priority. -/
abbrev Priority := Fin 16

end Sys2Proof
end

