-- ==== Sys2Proof/Syntax.lean ====
section
/-! DEFINITION. The commands: one constructor for each row of spec/opcode_table.json. -/

namespace Sys2Proof

/-- What ends a frame as a fault, apart from the gap (R157); the gap has the row GAP_EXCEEDED. -/
inductive FaultCause where
  /-- The LEN byte is above 48. -/
  | lenAbove (len : Byte)
  /-- The CRC received disagrees with the one computed. -/
  | crcDisagrees
  /-- A character with a low stop bit completes inside the frame. -/
  | characterError
deriving DecidableEq, Repr

/-- The two orders of R161 and R167 at the end of a reply frame: the freeing of its slot and the start of the next
frame fall at one instant, and the CREDIT of that frame counts the slot before or after its freeing. -/
inductive EndOrder where
  /-- The freeing is taken first and counted in the next frame's CREDIT. -/
  | freeThenPick
  /-- The pick is taken first; the next frame shows one slot fewer free. -/
  | pickThenFree
deriving DecidableEq, Repr

/-- The two moments of a character on LRX. -/
inductive CharacterMoment where
  /-- Its start bit, which stops the inter-byte gap timer (R158). -/
  | startBit
  /-- The end of its stop bit; `stopOk` is false for a character error (R153). -/
  | completed (stopOk : Bool)
deriving DecidableEq, Repr

/-- The commands of the FZ3204. A request row stands for its good frame's completion on LRX, with the frame's SESS,
TAG and payload as received (LEN is the payload's length). The other rows are the part's own happenings. -/
inductive Instr where
  /-- CONFIG_SOURCE, R13. -/
  | configSource (sess tag : Byte) (payload : List Byte)
  /-- SET_ADMIT, R10. -/
  | setAdmit (sess tag : Byte) (payload : List Byte)
  /-- CONFIG_LINE, R114. -/
  | configLine (sess tag : Byte) (payload : List Byte)
  /-- CONFIG_TIMER, R137. -/
  | configTimer (sess tag : Byte) (payload : List Byte)
  /-- START_TIMER, R135. -/
  | startTimer (sess tag : Byte) (payload : List Byte)
  /-- STOP_TIMER, R136. -/
  | stopTimer (sess tag : Byte) (payload : List Byte)
  /-- SET_TIMEBASE, R123. -/
  | setTimebase (sess tag : Byte) (payload : List Byte)
  /-- SET_ALERT, R99. -/
  | setAlert (sess tag : Byte) (payload : List Byte)
  /-- RESET, R182. -/
  | reset (sess tag : Byte) (payload : List Byte)
  /-- QUERY_SOURCE, R21. -/
  | querySource (sess tag : Byte) (payload : List Byte)
  /-- QUERY_LINES, R116. -/
  | queryLines (sess tag : Byte) (payload : List Byte)
  /-- QUERY_TIMER, R139. -/
  | queryTimer (sess tag : Byte) (payload : List Byte)
  /-- READ_TIME, R125. -/
  | readTime (sess tag : Byte) (payload : List Byte)
  /-- QUERY_SESSION, R89. -/
  | querySession (sess tag : Byte) (payload : List Byte)
  /-- SNAPSHOT, R144. -/
  | snapshot (sess tag : Byte) (payload : List Byte)
  /-- READ_CAPTURE, R147. -/
  | readCapture (sess tag : Byte) (payload : List Byte)
  /-- DISCARD_CAPTURE, R149. -/
  | discardCapture (sess tag : Byte) (payload : List Byte)
  /-- OPEN, R78. -/
  | openSession (sess tag : Byte) (payload : List Byte)
  /-- CLOSE, R80. -/
  | close (sess tag : Byte) (payload : List Byte)
  /-- SET_SESSION, R84. -/
  | setSession (sess tag : Byte) (payload : List Byte)
  /-- RESUME, R87. -/
  | resume (sess tag : Byte) (payload : List Byte)
  /-- ACCEPT, R57. -/
  | accept (sess tag : Byte) (payload : List Byte)
  /-- RETURN, R60. -/
  | returnOffer (sess tag : Byte) (payload : List Byte)
  /-- DONE, R61. -/
  | done (sess tag : Byte) (payload : List Byte)
  /-- DONE_TOP, R62. -/
  | doneTop (sess tag : Byte) (payload : List Byte)
  /-- UNKNOWN_TYPE, R176: a good frame whose TYPE `type` names no request. -/
  | unknownType (type sess tag : Byte) (payload : List Byte)
  /-- OVERRUN, R159: a good frame with this SESS and TAG completes with no free slot. -/
  | overrun (sess tag : Byte)
  /-- FRAME_FAULT, R157. -/
  | frameFault (cause : FaultCause)
  /-- GAP_EXCEEDED, R158. -/
  | gapExceeded
  /-- PICK, R164. -/
  | pick
  /-- END_OF_FRAME, R166, with the order of R161 and R167. -/
  | endOfFrame (order : EndOrder)
  /-- ACK_DEADLINE_EXPIRY, R51: of the offer `dn` at the delivery session `sess`. -/
  | ackDeadlineExpiry (sess : Deliv) (dn : Byte)
  /-- HOLD_EXPIRY, R20. -/
  | holdExpiry (source : SourceId)
  /-- RENEWAL_GAP_END, R102. -/
  | renewalGapEnd
  /-- TICK, R121. -/
  | tick
  /-- TIMER_EXPIRY, R130. -/
  | timerExpiry (timer : TimerId)
  /-- OCCURRENCE, R5: the filtered level of the line changes to `level`. -/
  | occurrence (line : LineId) (level : Bool)
  /-- ASSERTION, R6. -/
  | assertion (line : LineId)
  /-- DEASSERTION, R7. -/
  | deassertion (line : LineId)
  /-- POWER_ON, R168. -/
  | powerOn
  /-- POWER_ON_RESET_END, R168, with the levels of the straps BR1 and BR0. -/
  | powerOnResetEnd (br1 br0 : Bool)
  /-- RSTN_ASSERT, R168. -/
  | rstnAssert
  /-- RSTN_RELEASE, R168, with the levels of the straps BR1 and BR0. -/
  | rstnRelease (br1 br0 : Bool)
  /-- LINE_SAMPLE, R106: bit `n` of `levels` is the level on the pin of EVn. -/
  | lineSample (levels : BitVec 24)
  /-- CHARACTER_COMPLETED, R156, "with the gap timer started and stopped around it": the row's two moments (log
  entry 11). The value counts at the completion alone. -/
  | characterCompleted (value : Byte) (moment : CharacterMoment)
deriving DecidableEq, Repr

end Sys2Proof
end

