-- ==== Sys2Proof/Decode.lean ====
section
/-! DEFINITION. The command a table word spells. No row of spec/opcode_table.json gives bits ("fields" is empty in every
row and no row has "fixed"), so no word spells a command. The part's own byte formats are in Machine/Frames.lean. -/

namespace Sys2Proof

/-- The command that the `nbits` bits of `w` spell by the table: none, as the table gives no row any bits. -/
def decodeTableWord (_nbits _w : Nat) : Option Instr := none

end Sys2Proof
end

