-- ==== Sys2Proof/Config.lean ====
section
/-! DEFINITION. The numbers the manual fixes for every FZ3204. Nothing here is left to an implementation, and the
model needs no free value: see INVENTORY.md, "What the manual leaves open". -/

namespace Sys2Proof.Config

/-- SYNC opens every frame in both directions (R154). -/
def sync : Byte := 0xB6#8

/-- The largest LEN of a frame from the host (R154, R157). -/
def maxRequestLen : Nat := 48

/-- The limit of a source's count (R4). -/
def countLimit : Nat := 65535

/-- The limit of the one-byte fault and stall counts (R54, R162). -/
def byteLimit : Nat := 255

/-- The entries a session's two lists hold together at most (R31). -/
def sessionCapacity : Nat := 8

/-- Microseconds of the reference clock in one millisecond. -/
def microsPerMilli : Nat := 1000

/-- The renewal gap: 2 microseconds (R101). -/
def renewalGap : Nat := 2

/-- The inter-byte gap of a frame from the host: 2 ms (R158). -/
def interByteGap : Nat := 2000

/-- The power-on reset: 1 ms after VDD is in range (R168). -/
def powerOnTime : Nat := 1000

/-- The interval between two line samples: 1 microsecond (R106). -/
def samplePeriod : Nat := 1

/-- The version byte of HELLO (R186). -/
def version : Byte := 1#8

end Sys2Proof.Config
end

