-- ==== Sys2Proof/Machine/State.lean ====
section
/-! DEFINITION. The state of the FZ3204, block by block, and its value right after the power-on reset. -/

namespace Sys2Proof.Machine

/-! ## The source table (R1) -/

/-- The admit field of a source (R9); the field is called `admission` because Lean reserves the shorter word. -/
inductive Admission where
  | off | hold | on
deriving DecidableEq, Repr

/-- Completion mode of a source (R1). -/
inductive Completion where
  | manual | auto
deriving DecidableEq, Repr

/-- The four states of a source (R3). -/
inductive SourceState where
  | idle | pending | offered | inService
deriving DecidableEq, Repr

/-- One source record (R1). Its id is its place in the table, and its kind is LINE below 24 and TIMER from 24. -/
structure Source where
  admission : Admission
  priority : Priority
  primary : Option Deliv
  fallback : Option Deliv
  completion : Completion
  state : SourceState
  holder : Option Deliv
  count : Nat
  saturated : Bool
  firstTime : Option Tick
  lastTime : Option Tick
  holdUntil : Option Instant
deriving DecidableEq, Repr

/-- The reset column of R1. -/
def Source.reset : Source :=
  { admission := .off, priority := 0, primary := none, fallback := none, completion := .manual, state := .idle,
    holder := none, count := 0, saturated := false, firstTime := none, lastTime := none, holdUntil := none }

/-! ## The line unit (R105) -/

/-- How a change of the filtered level is judged (R105). -/
inductive Sense where
  | rise | fall | both | high | low
deriving DecidableEq, Repr

/-- One line record (R105); the line number is its place. -/
structure Line where
  sense : Sense
  filter : Nat
  raw : Bool
  filtered : Bool
  runCount : Nat
deriving DecidableEq, Repr

/-- The reset column of R105 for a line whose level at the latest sample is `raw`. -/
def Line.reset (raw : Bool) : Line :=
  { sense := .rise, filter := 0, raw := raw, filtered := raw, runCount := 0 }

/-! ## The timer unit (R120, R121, R126) -/

/-- The four lengths of a tick (R120). -/
inductive TimeBase where
  | us1 | us10 | us100 | ms1
deriving DecidableEq, Repr

/-- What a timer does after an expiry (R126). -/
inductive TimerMode where
  | oneShot | periodic | gap
deriving DecidableEq, Repr

/-- The three states of a timer (R127). -/
inductive TimerState where
  | stopped | running | waiting
deriving DecidableEq, Repr

/-- One timer record (R126); the timer number is its place. -/
structure Timer where
  mode : TimerMode
  period : Nat
  pendingPeriod : Option Nat
  remaining : Nat
  state : TimerState
  watched : LineId
deriving DecidableEq, Repr

/-- The reset column of R126. -/
def Timer.reset : Timer :=
  { mode := .oneShot, period := 1, pendingPeriod := none, remaining := 0, state := .stopped, watched := 0 }

/-- The timer unit: the time base, the time counter, the instant of the next tick (absent while the part is held in
reset, R140), the eight timers, and the model's own field `dueExpiries`: the expiries of the latest tick that the
source table has not taken yet, each with its timer and the tick's value (R132; log entry 4). -/
structure TimerUnit where
  timeBase : TimeBase
  counter : Tick
  nextTick : Option Instant
  timers : Vector Timer 8
  dueExpiries : List (TimerId × Tick)
deriving DecidableEq, Repr

/-- R140, with the instant of the first tick. -/
def TimerUnit.reset (nextTick : Option Instant) : TimerUnit :=
  { timeBase := .us10, counter := 0, nextTick := nextTick, timers := Vector.replicate 8 Timer.reset,
    dueExpiries := [] }

/-! ## The service tracker (R47, R54, R56, R75) -/

/-- One offer record (R47). The times are those of the source record at the claim. -/
structure Offer where
  dn : Byte
  source : SourceId
  priority : Priority
  count : Nat
  saturated : Bool
  firstTime : Option Tick
  lastTime : Option Tick
  sendNumber : Nat
  sendOwed : Bool
  ackDeadline : Option Instant
deriving DecidableEq, Repr

/-- One entry of an in-service list (R56). -/
structure Entry where
  source : SourceId
  priority : Priority
  dn : Byte
deriving DecidableEq, Repr

/-- The delivery modes of a session (R75). -/
inductive SessionMode where
  | nested | flat | single
deriving DecidableEq, Repr

/-- The six parameters of an open session (R75, R77); the timeouts are in milliseconds. -/
structure Params where
  mode : SessionMode
  window : Nat
  threshold : Priority
  ackTimeout : Nat
  retryLimit : Nat
  holdTime : Nat
deriving DecidableEq, Repr

/-- The three states of a session. The six parameters are present together in ACTIVE and STALLED and absent together
in CLOSED (R75). -/
inductive SessionStatus where
  | closed
  | active (params : Params)
  | stalled (params : Params)
deriving DecidableEq, Repr

/-- The stall record of a session (R54). -/
structure StallRecord where
  exhaustingDN : Option Byte
  withdrawn : List SourceId
  count : Nat
deriving DecidableEq, Repr

/-- The empty stall record (R54). -/
def StallRecord.empty : StallRecord := { exhaustingDN := none, withdrawn := [], count := 0 }

/-- One session record (R75). Both lists stand oldest first. -/
structure Session where
  status : SessionStatus
  nextDN : Byte
  offers : List Offer
  inService : List Entry
  rotation : Vector (Option SourceId) 16
  stall : StallRecord
deriving DecidableEq, Repr

/-- The reset column of R75. -/
def Session.reset : Session :=
  { status := .closed, nextDN := 0, offers := [], inService := [], rotation := Vector.replicate 16 none,
    stall := .empty }

/-! ## The alert output (R98) -/

/-- The alert modes (R98). -/
inductive AlertMode where
  | level | renew
deriving DecidableEq, Repr

/-- The alert output (R98): `gap` is the end instant of a running renewal gap. -/
structure Alert where
  enabled : Bool
  mode : AlertMode
  pin : Bool
  gap : Option Instant
deriving DecidableEq, Repr

/-- Power-on and RSTn values of R98. -/
def Alert.reset : Alert := { enabled := false, mode := .level, pin := false, gap := none }

/-! ## The capture buffer (R142) -/

/-- One capture entry (R143). -/
structure CaptureEntry where
  state : SourceState
  holder : Option Deliv
  admission : Admission
  priority : Priority
  count : Nat
  saturated : Bool
  firstTime : Option Tick
  lastTime : Option Tick
  hold : Bool
deriving DecidableEq, Repr

/-- What a HELD capture buffer holds; an EMPTY one holds none of it (R142). -/
structure Capture where
  owner : SessId
  time : Tick
  entries : Vector CaptureEntry 32
  pagesRead : Vector Bool 4
deriving DecidableEq, Repr

/-! ## The link receiver (R156, R160, R162) -/

/-- A good frame as a slot stores it (R159). -/
structure ReqFrame where
  sess : Byte
  type : Byte
  tag : Byte
  payload : List Byte
deriving DecidableEq, Repr

/-- The framing states of the receiver with the bytes taken so far (R156). HEADER is split by the byte it waits for. -/
inductive Framing where
  | hunt
  | headerLen
  | headerSess (len : Byte)
  | headerType (len sess : Byte)
  | headerTag (len sess type : Byte)
  | payload (len sess type tag : Byte) (taken : List Byte)
  | checkLow (len sess type tag : Byte) (taken : List Byte)
  | checkHigh (len sess type tag : Byte) (taken : List Byte) (low : Byte)
deriving DecidableEq, Repr

/-- The states of a receive slot (R160). -/
inductive Slot where
  | free
  | request (frame : ReqFrame)
  | reply
deriving DecidableEq, Repr

/-- The link receiver: framing state, the expiry instant of the inter-byte gap timer while it runs (R158), the four
slots, the slots in use in order of arrival (R159), and the link-fault figures (R162). -/
structure Receiver where
  framing : Framing
  gapTimer : Option Instant
  slots : Vector Slot 4
  arrivals : List SlotId
  overruns : Nat
  lastDiscarded : Option (Byte × Byte)
  frameFaults : Nat
deriving DecidableEq, Repr

/-- R168, R169: HUNT, every slot FREE, the figures clear. -/
def Receiver.reset : Receiver :=
  { framing := .hunt, gapTimer := none, slots := Vector.replicate 4 .free, arrivals := [], overruns := 0,
    lastDiscarded := none, frameFaults := 0 }

/-! ## The request dispatcher (R174, R178) -/

/-- The status codes of replies (R177). -/
inductive Status where
  | ok | held | badSession | unknownType | wrongSession | badLength | badField | notOpen | alreadyOpen | notStalled
  | busySource | busySession | busyTimer | notInService | stale | captureEmpty | captureBusy
deriving DecidableEq, Repr

/-- The scopes of RESET (R182). -/
inductive Scope where
  | full | delivery
deriving DecidableEq, Repr

/-- What a reply cache that is not EMPTY holds (R178). -/
structure CacheEntry where
  type : Byte
  tag : Byte
  status : Status
  contents : List Byte
deriving DecidableEq, Repr

/-- The dispatcher: NORMAL, or RESET_PENDING with a scope (R174), and the five reply caches (R178). -/
structure Dispatcher where
  pendingReset : Option Scope
  caches : Vector (Option CacheEntry) 5
deriving DecidableEq, Repr

/-- NORMAL with every cache EMPTY (R174, R178). -/
def Dispatcher.reset : Dispatcher := { pendingReset := none, caches := Vector.replicate 5 none }

/-! ## The link transmitter (R163) -/

/-- One reply of the reply queue (R177), with the slot of its request. `startsReset` marks the reply of an executed
RESET, whose end makes the reset take effect (R166, R182). -/
structure Reply where
  slot : SlotId
  sess : Byte
  tag : Byte
  type : Byte
  status : Status
  contents : List Byte
  startsReset : Bool
deriving DecidableEq, Repr

/-- The causes of HELLO (R186). -/
inductive Cause where
  | power | pin | full | delivery
deriving DecidableEq, Repr

/-- The kinds of frame on LTX (R163, R166). -/
inductive TxKind where
  | reply (slot : SlotId) (startsReset : Bool)
  | evt (sess : Deliv) (dn : Byte)
  | hello
  | link
  | stall (sess : Deliv)
deriving DecidableEq, Repr

/-- The frame in transmission with its bytes, fixed when it starts (R166). -/
structure TxFrame where
  kind : TxKind
  bytes : List Byte
deriving DecidableEq, Repr

/-- The link transmitter (R163). -/
structure Transmitter where
  replyQueue : List Reply
  hello : Option Cause
  linkOwed : Bool
  stallOwed : Vector Bool 4
  rrPointer : Option Deliv
  frame : Option TxFrame
deriving DecidableEq, Repr

/-- The reset column of R163 with the HELLO it leaves owed, if any. -/
def Transmitter.reset (hello : Option Cause) : Transmitter :=
  { replyQueue := [], hello := hello, linkOwed := false, stallOwed := Vector.replicate 4 false, rrPointer := none,
    frame := none }

/-! ## The part -/

/-- The link rates the straps select (R153). -/
inductive LinkRate where
  | r115200 | r460800 | r921600 | r3000000
deriving DecidableEq, Repr

/-- Whether the part runs or is held in reset (R168): in the power-on reset since the instant at which VDD came into
range, with RSTn low or not, or in the reset of a low RSTn. -/
inductive Phase where
  | running
  | powerOn (since : Instant) (rstnLow : Bool)
  | pinReset
deriving DecidableEq, Repr

/-- The whole part. `pending` is the queue of the commands that wait, first in, first out. -/
structure State where
  clock : Instant
  phase : Phase
  linkRate : LinkRate
  sources : Vector Source 32
  lines : Vector Line 24
  timeUnit : TimerUnit
  sessions : Vector Session 4
  alert : Alert
  capture : Option Capture
  receiver : Receiver
  dispatcher : Dispatcher
  transmitter : Transmitter
  pending : List Instr
deriving DecidableEq, Repr

/-- No command of the FZ3204 stops the part: every one has an effect in every state (NOTES.md, Stops), so there is no
fault to name. Safe: nothing is claimed of a fault. -/
inductive Fault where
deriving DecidableEq, Repr

/-- Why a command is refused by the model. -/
inductive Refusal where
  /-- Raised by an arm of `exec` whose command has no meaning yet; safe. No arm raises it now. -/
  | notModelled (mnemonic : String)
deriving DecidableEq, Repr

/-- The part right after the power-on reset: every block at its reset value, the first tick one reset tick length
(10 microseconds) away, and HELLO owed with cause POWER (R168). The reference clock reads 0, the straps read 0 0 and
every line's latest sample is 0: the model's choices (log entries 1 and 2). -/
def State.reset : State :=
  { clock := 0, phase := .running, linkRate := .r115200, sources := Vector.replicate 32 Source.reset,
    lines := Vector.replicate 24 (Line.reset false), timeUnit := TimerUnit.reset (some 10),
    sessions := Vector.replicate 4 Session.reset, alert := Alert.reset, capture := none, receiver := Receiver.reset,
    dispatcher := Dispatcher.reset, transmitter := Transmitter.reset (some .power), pending := [] }

end Sys2Proof.Machine
end

