-- ==== Sys2Proof/Machine/Ops.lean ====
section
/-! DEFINITION. The named operations over the records of the state: reading and writing each one, counting, the
source table's changes (R4 to R20), the timers' load, restart and step (R128, R129, R131, R133). -/

namespace Sys2Proof.Machine

/-! ## Writing a block of the state -/

def State.setClock (s : State) (v : Instant) : State := { s with clock := v }
def State.setPhase (s : State) (v : Phase) : State := { s with phase := v }
def State.setLinkRate (s : State) (v : LinkRate) : State := { s with linkRate := v }
def State.setSources (s : State) (v : Vector Source 32) : State := { s with sources := v }
def State.setLines (s : State) (v : Vector Line 24) : State := { s with lines := v }
def State.setTimeUnit (s : State) (v : TimerUnit) : State := { s with timeUnit := v }
def State.setSessions (s : State) (v : Vector Session 4) : State := { s with sessions := v }
def State.setAlertBlock (s : State) (v : Alert) : State := { s with alert := v }
def State.setCapture (s : State) (v : Option Capture) : State := { s with capture := v }
def State.setReceiver (s : State) (v : Receiver) : State := { s with receiver := v }
def State.setDispatcher (s : State) (v : Dispatcher) : State := { s with dispatcher := v }
def State.setTransmitter (s : State) (v : Transmitter) : State := { s with transmitter := v }
def State.setPending (s : State) (v : List Instr) : State := { s with pending := v }

/-! ## Reading and writing one record -/

/-- The record of source `x`. -/
def State.source (s : State) (x : SourceId) : Source := s.sources[x]

/-- Replace the record of source `x`. -/
def State.setSource (s : State) (x : SourceId) (r : Source) : State := s.setSources (s.sources.set x r)

/-- The record of line `n`. -/
def State.line (s : State) (n : LineId) : Line := s.lines[n]

/-- Replace the record of line `n`. -/
def State.setLine (s : State) (n : LineId) (l : Line) : State := s.setLines (s.lines.set n l)

/-- The record of timer `k`. -/
def State.timer (s : State) (k : TimerId) : Timer := s.timeUnit.timers[k]

/-- Replace all eight timer records. -/
def State.setTimers (s : State) (ts : Vector Timer 8) : State := s.setTimeUnit { s.timeUnit with timers := ts }

/-- Replace the record of timer `k`. -/
def State.setTimer (s : State) (k : TimerId) (t : Timer) : State := s.setTimers (s.timeUnit.timers.set k t)

/-- Replace the expiries that wait for the source table (log entry 4). -/
def State.setDueExpiries (s : State) (d : List (TimerId × Tick)) : State :=
  s.setTimeUnit { s.timeUnit with dueExpiries := d }

/-- The record of a delivery session. -/
def State.session (s : State) (d : Deliv) : Session := s.sessions[d]

/-- Replace the record of a delivery session. -/
def State.setSession (s : State) (d : Deliv) (v : Session) : State := s.setSessions (s.sessions.set d v)

/-- Set or clear the STALL notice flag of a session (R163). -/
def State.setStallOwed (s : State) (d : Deliv) (owed : Bool) : State :=
  s.setTransmitter { s.transmitter with stallOwed := s.transmitter.stallOwed.set d owed }

/-- The part is not held in reset (R168). -/
def State.isRunning (s : State) : Bool := s.phase == .running

/-- The present time: the time counter (R122). -/
def State.now (s : State) : Tick := s.timeUnit.counter

/-- The reference clock has reached `t`: it moves there if it stood before it (log entry 1). -/
def State.reach (s : State) (t : Instant) : State := s.setClock (max s.clock t)

/-- Add 1, stopping at `limit`. -/
def saturatingSucc (limit n : Nat) : Nat := if n < limit then n + 1 else limit

/-! ## Sources, lines and timers -/

/-- The line of a LINE source (R1). -/
def lineOf (x : SourceId) : Option LineId := if h : x.val < 24 then some ⟨x.val, h⟩ else none

/-- The source of a line (R105). -/
def lineSource (n : LineId) : SourceId := ⟨n.val, by omega⟩

/-- The source of a timer (R126). -/
def timerSource (k : TimerId) : SourceId := ⟨24 + k.val, by omega⟩

/-- A line sensed HIGH or LOW is level-type (R2). -/
def Sense.isLevel : Sense → Bool
  | .rise => false
  | .fall => false
  | .both => false
  | .high => true
  | .low => true

/-- The asserted level of a level-type sense: 1 under HIGH, 0 under LOW (R105). -/
def Sense.assertedLevel : Sense → Option Bool
  | .rise => none
  | .fall => none
  | .both => none
  | .high => some true
  | .low => some false

/-- The line's filtered level equals its asserted level (R105). -/
def Line.isAsserted (l : Line) : Bool := l.sense.assertedLevel == some l.filtered

/-- The source is level-type (R2). -/
def State.isLevelType (s : State) (x : SourceId) : Bool :=
  match lineOf x with
  | some n => (s.line n).sense.isLevel
  | none => false

/-- The source is level-type and its line is asserted. -/
def State.isAsserted (s : State) (x : SourceId) : Bool :=
  match lineOf x with
  | some n => (s.line n).isAsserted
  | none => false

/-- The line level shown for a source: the filtered level of its line, 0 for a TIMER source (R21, R42, R112). -/
def State.lineLevel (s : State) (x : SourceId) : Bool :=
  match lineOf x with
  | some n => (s.line n).filtered
  | none => false

/-! ## Counting (R4) -/

/-- One counted occurrence at time `t` (R4). -/
def Source.addOccurrence (r : Source) (t : Tick) : Source :=
  { r with
    count := saturatingSucc Config.countLimit r.count
    saturated := r.saturated || !(r.count < Config.countLimit)
    firstTime := r.firstTime <|> some t
    lastTime := some t }

/-- Count 0, saturated no, times absent (R4). -/
def Source.emptied (r : Source) : Source :=
  { r with count := 0, saturated := false, firstTime := none, lastTime := none }

/-- IDLE with an empty count and no holder. -/
def Source.sentIdle (r : Source) : Source := { r.emptied with state := .idle, holder := none }

/-- PENDING with the one occurrence of a level-type event seen at `t` (R6, R12, R18, R23). -/
def Source.raisedAt (r : Source) (t : Tick) : Source :=
  { r with state := .pending, holder := none, count := 1, saturated := false, firstTime := some t, lastTime := some t }

/-- An active hold: present and not yet reached; its expiry makes the field absent (R20, log entry 3). -/
def Source.isHeld (r : Source) : Bool := r.holdUntil.isSome

/-! ## Timer records (R128, R129, R131, R133) -/

/-- The load rule (R128). -/
def Timer.load (t : Timer) : Timer :=
  match t.pendingPeriod with
  | some p => { t with period := p, pendingPeriod := none, remaining := p }
  | none => { t with remaining := t.period }

/-- RUNNING from a fresh load (R133, R135). -/
def Timer.started (t : Timer) : Timer := { t.load with state := .running }

/-- A counted occurrence of line source `n` restarts a RUNNING or WAITING GAP timer that watches it (R133). -/
def Timer.heard (n : LineId) (t : Timer) : Timer :=
  if t.mode = .gap ∧ t.watched = n ∧ t.state ≠ .stopped then t.started else t

/-- A RUNNING timer expires at a tick that takes its remaining to 0 (R129). -/
def Timer.expiresAtTick (t : Timer) : Bool := t.state == .running && t.remaining ≤ 1

/-- The state a timer takes after its expiry (R131). -/
def Timer.afterExpiry (t : Timer) : Timer :=
  match t.mode with
  | .oneShot => { t with state := .stopped, remaining := 0 }
  | .periodic => t.started
  | .gap => { t with state := .waiting, remaining := 0 }

/-- What one tick does to a timer record (R127, R129, R131). -/
def Timer.ticked (t : Timer) : Timer :=
  match t.state with
  | .stopped => t
  | .waiting => t
  | .running => if t.expiresAtTick then t.afterExpiry else { t with remaining := t.remaining - 1 }

/-- The length of a tick in microseconds (R120). -/
def TimeBase.micros : TimeBase → Nat
  | .us1 => 1
  | .us10 => 10
  | .us100 => 100
  | .ms1 => 1000

/-- A counted occurrence of source `x` reaches the GAP timers that watch it (R8, R133). -/
def State.countedOccurrence (s : State) (x : SourceId) : State :=
  match lineOf x with
  | some n => s.setTimers (Vector.ofFn fun k => (s.timer k).heard n)
  | none => s

/-! ## Occurrences (R5, R6, R7) -/

/-- An occurrence at time `t` on an edge-type source (R5). -/
def State.takeOccurrence (s : State) (x : SourceId) (t : Tick) : State :=
  let r := s.source x
  match r.admission with
  | .off => s
  | .hold | .on =>
    let counted := r.addOccurrence t
    let r' := if r.state = .idle then { counted with state := .pending } else counted
    (s.setSource x r').countedOccurrence x

/-- A level-type line becomes asserted (R6). -/
def State.takeAssertion (s : State) (x : SourceId) : State :=
  let r := s.source x
  if r.state = .idle ∧ r.admission ≠ .off then
    (s.setSource x { r with state := .pending, count := 1, firstTime := some s.now, lastTime := some s.now }).countedOccurrence x
  else s

/-- A level-type line becomes deasserted (R7). -/
def State.takeDeassertion (s : State) (x : SourceId) : State :=
  let r := s.source x
  if r.state = .pending then s.setSource x { r.emptied with state := .idle } else s

/-! ## Admission (R10, R11, R12) -/

/-- Admission from ON or HOLD to OFF (R11). -/
def Source.admissionOff (r : Source) : Source :=
  let e := { r.emptied with admission := .off, holdUntil := none }
  if r.state = .pending then { e with state := .idle } else e

/-- SET_ADMIT's effect for the old and new values (R10, R11, R12). -/
def State.changeAdmission (s : State) (x : SourceId) (new : Admission) : State :=
  let r := s.source x
  match r.admission, new with
  | .off, .off => s
  | .off, _ =>
    if r.state = .idle ∧ s.isAsserted x then
      (s.setSource x { r with
        admission := new, state := .pending, count := 1, firstTime := some s.now, lastTime := some s.now }).countedOccurrence x
    else s.setSource x { r with admission := new }
  | _, .off => s.setSource x r.admissionOff
  | _, _ => s.setSource x { r with admission := new }

/-! ## Coming home (R16, R17, R18, R19) -/

/-- The merge of a withdrawn offer into its source record (R17). -/
def Source.merged (r : Source) (o : Offer) (levelType asserted : Bool) : Source :=
  if r.admission = .off then r.sentIdle
  else if levelType then
    if asserted then
      { r with
        state := .pending, holder := none, count := 1, saturated := false, firstTime := o.firstTime
        lastTime := o.lastTime }
    else r.sentIdle
  else
    { r with
      state := .pending
      holder := none
      count := min Config.countLimit (o.count + r.count)
      saturated := o.saturated || r.saturated || Config.countLimit < o.count + r.count
      firstTime := o.firstTime
      lastTime := if 0 < r.count then r.lastTime else o.lastTime }

/-- The merge, with the line's level at this moment (R17). -/
def State.merge (s : State) (o : Offer) : State :=
  s.setSource o.source ((s.source o.source).merged o (s.isLevelType o.source) (s.isAsserted o.source))

/-- The post-completion rule (R18). -/
def Source.completed (r : Source) (levelType asserted : Bool) (now : Tick) : Source :=
  if r.admission = .off then r.sentIdle
  else if levelType then if asserted then r.raisedAt now else r.sentIdle
  else if 0 < r.count then { r with state := .pending, holder := none }
  else r.sentIdle

/-- The post-completion rule, with the line's level and the time at this moment (R18). -/
def State.complete (s : State) (x : SourceId) : State :=
  s.setSource x ((s.source x).completed (s.isLevelType x) (s.isAsserted x) s.now)

/-- The hold a RETURN sets after the merge, for a hold time in milliseconds (R19, R20). -/
def State.holdReturned (s : State) (x : SourceId) (holdTime : Nat) : State :=
  let r := s.source x
  if r.admission = .off then s.setSource x { r with holdUntil := none }
  else if holdTime = 0 then s
  else s.setSource x { r with holdUntil := some (s.clock + Config.microsPerMilli * holdTime) }

/-! ## Sessions -/

/-- The session is ACTIVE. -/
def Session.isActive (v : Session) : Bool :=
  match v.status with
  | .active _ => true
  | .closed => false
  | .stalled _ => false

/-- The six parameters, absent in a CLOSED session (R75). -/
def Session.params (v : Session) : Option Params :=
  match v.status with
  | .active p => some p
  | .stalled p => some p
  | .closed => none

/-- The entries of both lists together (R31). -/
def Session.load (v : Session) : Nat := v.offers.length + v.inService.length

/-- The delivery session a SESS value names; session 0 is none. -/
def delivOf (σ : SessId) : Option Deliv := if h : σ.val = 0 then none else some ⟨σ.val - 1, by omega⟩

/-- The session number of a delivery session. -/
def sessionNumber (d : Deliv) : SessId := ⟨d.val + 1, by omega⟩

end Sys2Proof.Machine
end

