-- ==== Sys2Proof/Machine/Operands.lean ====
section
/-! DEFINITION. The payload of each request: its fields, and the ranges that step 5 of R176 checks. A reader answers
none exactly where the request is refused with BAD_FIELD; each is given a payload of its request's length (step 4). -/

namespace Sys2Proof.Machine

/-! ## Fields -/

/-- A field with the values 0 .. n - 1. -/
def fieldBelow (n : Nat) (b : Byte) : Option (Fin n) := if h : b.toNat < n then some ⟨b.toNat, h⟩ else none

/-- A two-byte field, least significant byte first (R154). -/
def twoBytes (low high : Byte) : Nat := low.toNat + 256 * high.toNat

/-- A route: 0 = NONE, 1..4 = session (R13). -/
def routeField (b : Byte) : Option (Option Deliv) :=
  if b.toNat = 0 then some none
  else if h : b.toNat - 1 < 4 then some (some ⟨b.toNat - 1, h⟩)
  else none

/-- 0 = MANUAL, 1 = AUTO (R13). -/
def completionField (b : Byte) : Option Completion :=
  match b.toNat with
  | 0 => some .manual
  | 1 => some .auto
  | _ => none

/-- 0 = OFF, 1 = HOLD, 2 = ON (R10). -/
def admissionField (b : Byte) : Option Admission :=
  match b.toNat with
  | 0 => some .off
  | 1 => some .hold
  | 2 => some .on
  | _ => none

/-- 0 = RISE, 1 = FALL, 2 = BOTH, 3 = HIGH, 4 = LOW (R114). -/
def senseField (b : Byte) : Option Sense :=
  match b.toNat with
  | 0 => some .rise
  | 1 => some .fall
  | 2 => some .both
  | 3 => some .high
  | 4 => some .low
  | _ => none

/-- 0 = ONE_SHOT, 1 = PERIODIC, 2 = GAP (R137). -/
def timerModeField (b : Byte) : Option TimerMode :=
  match b.toNat with
  | 0 => some .oneShot
  | 1 => some .periodic
  | 2 => some .gap
  | _ => none

/-- The time base code of R120. -/
def timeBaseField (b : Byte) : Option TimeBase :=
  match b.toNat with
  | 0 => some .us1
  | 1 => some .us10
  | 2 => some .us100
  | 3 => some .ms1
  | _ => none

/-- 0 = no, 1 = yes (R99). -/
def flagField (b : Byte) : Option Bool :=
  match b.toNat with
  | 0 => some false
  | 1 => some true
  | _ => none

/-- 0 = LEVEL, 1 = RENEW (R99). -/
def alertModeField (b : Byte) : Option AlertMode :=
  match b.toNat with
  | 0 => some .level
  | 1 => some .renew
  | _ => none

/-- 0 = FULL, 1 = DELIVERY (R182). -/
def scopeField (b : Byte) : Option Scope :=
  match b.toNat with
  | 0 => some .full
  | 1 => some .delivery
  | _ => none

/-- 0 = NESTED, 1 = FLAT, 2 = SINGLE (R77). -/
def sessionModeField (b : Byte) : Option SessionMode :=
  match b.toNat with
  | 0 => some .nested
  | 1 => some .flat
  | 2 => some .single
  | _ => none

/-! ## Payloads -/

/-- The fields of CONFIG_SOURCE (R13). -/
structure ConfigSourceArgs where
  source : SourceId
  priority : Priority
  primary : Option Deliv
  fallback : Option Deliv
  completion : Completion
deriving DecidableEq, Repr

/-- CONFIG_SOURCE: a fallback equal to a primary that is not NONE is out of range (R13). -/
def readConfigSource : List Byte → Option ConfigSourceArgs
  | [b0, b1, b2, b3, b4] =>
    match fieldBelow 32 b0, fieldBelow 16 b1, routeField b2, routeField b3, completionField b4 with
    | some x, some p, some pr, some fb, some c =>
      if pr.isSome ∧ pr = fb then none
      else some { source := x, priority := p, primary := pr, fallback := fb, completion := c }
    | _, _, _, _, _ => none
  | _ => none

/-- SET_ADMIT: the source and the new value (R10). -/
def readSetAdmission : List Byte → Option (SourceId × Admission)
  | [b0, b1] =>
    match fieldBelow 32 b0, admissionField b1 with
    | some x, some a => some (x, a)
    | _, _ => none
  | _ => none

/-- The fields of CONFIG_LINE (R114). -/
structure ConfigLineArgs where
  line : LineId
  sense : Sense
  filter : Nat
deriving DecidableEq, Repr

/-- CONFIG_LINE (R114). -/
def readConfigLine : List Byte → Option ConfigLineArgs
  | [b0, b1, b2] =>
    match fieldBelow 24 b0, senseField b1, fieldBelow 8 b2 with
    | some n, some e, some f => some { line := n, sense := e, filter := f.val }
    | _, _, _ => none
  | _ => none

/-- The fields of CONFIG_TIMER (R137). -/
structure ConfigTimerArgs where
  timer : TimerId
  mode : TimerMode
  period : Nat
  watched : LineId
deriving DecidableEq, Repr

/-- CONFIG_TIMER: a period of 0 is out of range (R137). -/
def readConfigTimer : List Byte → Option ConfigTimerArgs
  | [b0, b1, b2, b3, b4] =>
    match fieldBelow 8 b0, timerModeField b1, fieldBelow 24 b4 with
    | some k, some m, some w =>
      if twoBytes b2 b3 = 0 then none
      else some { timer := k, mode := m, period := twoBytes b2 b3, watched := w }
    | _, _, _ => none
  | _ => none

/-- START_TIMER, STOP_TIMER and QUERY_TIMER: the timer (R135, R136, R139). -/
def readTimer : List Byte → Option TimerId
  | [b] => fieldBelow 8 b
  | _ => none

/-- SET_TIMEBASE (R123). -/
def readTimeBase : List Byte → Option TimeBase
  | [b] => timeBaseField b
  | _ => none

/-- SET_ALERT (R99). -/
def readSetAlert : List Byte → Option (Bool × AlertMode)
  | [b0, b1] =>
    match flagField b0, alertModeField b1 with
    | some e, some m => some (e, m)
    | _, _ => none
  | _ => none

/-- RESET (R182). -/
def readScope : List Byte → Option Scope
  | [b] => scopeField b
  | _ => none

/-- QUERY_SOURCE and DONE: the source (R21, R61). -/
def readSource : List Byte → Option SourceId
  | [b] => fieldBelow 32 b
  | _ => none

/-- QUERY_SESSION: the session reported, 1..4 (R89). -/
def readSession : List Byte → Option Deliv
  | [b] => if b.toNat = 0 then none else if h : b.toNat - 1 < 4 then some ⟨b.toNat - 1, h⟩ else none
  | _ => none

/-- READ_CAPTURE: the page (R147). -/
def readPage : List Byte → Option (Fin 4)
  | [b] => fieldBelow 4 b
  | _ => none

/-- OPEN and SET_SESSION: the six parameters (R77, R84). NESTED with a window other than 1 is out of range. -/
def readParams : List Byte → Option Params
  | [b0, b1, b2, b3, b4, b5] =>
    match sessionModeField b0, fieldBelow 16 b2 with
    | some m, some th =>
      if 1 ≤ b1.toNat ∧ b1.toNat ≤ 4 ∧ 1 ≤ b3.toNat ∧ b4.toNat ≤ 7 ∧ (m = .nested → b1.toNat = 1) then
        some { mode := m, window := b1.toNat, threshold := th, ackTimeout := b3.toNat, retryLimit := b4.toNat
               holdTime := b5.toNat }
      else none
    | _, _ => none
  | _ => none

/-- ACCEPT and RETURN: the DN; every value is in range (R57, R60). -/
def readDN : List Byte → Option Byte
  | [b] => some b
  | _ => none

end Sys2Proof.Machine
end

