-- ==== Sys2Proof/Machine/Flags.lean ====
section
/-! DEFINITION. The urgent condition and the ALERT pin it drives (R96 to R103). -/

namespace Sys2Proof.Machine

/-- The source contributes to the urgent condition (R96). -/
def Source.contributes (r : Source) : Bool :=
  r.priority == 15 && r.admission == .on &&
    ((r.state == .pending && !r.isHeld) || r.state == .offered)

/-- The urgent condition (R96). -/
def urgent (sources : Vector Source 32) : Bool :=
  (List.finRange 32).any fun x => sources[x].contributes

/-- A source joins as PENDING between two states of the table (R97). -/
def joinsPending (before after : Vector Source 32) : Bool :=
  (List.finRange 32).any fun x =>
    !before[x].contributes && after[x].contributes && after[x].state == .pending

/-- The alert output after a happening that took the table from `before` to `after` at the instant `clock`
(R100, R101, R102). -/
def Alert.judge (a : Alert) (clock : Instant) (before after : Vector Source 32) : Alert :=
  if !a.enabled then { a with pin := false }
  else if a.gap.isSome then { a with pin := false }
  else if !urgent after then { a with pin := false }
  else if a.mode == .renew && a.pin && joinsPending before after then
    { a with pin := false, gap := some (clock + Config.renewalGap) }
  else { a with pin := true }

/-- The alert output judges the condition once on the records as the whole happening leaves them (R97): `s` is the
state the happening leaves and `before` the state it found. -/
def State.judged (s before : State) : State :=
  s.setAlertBlock (s.alert.judge s.clock before.sources s.sources)

/-- What a taken SET_ALERT makes of the alert output (R103). -/
def Alert.configure (a : Alert) (enabled : Bool) (mode : AlertMode) (urgentNow : Bool) : Alert :=
  if a.enabled = enabled ∧ a.mode = mode then a
  else
    match a.enabled, enabled with
    | _, false => { enabled := false, mode := mode, pin := false, gap := none }
    | false, true => { enabled := true, mode := mode, pin := urgentNow, gap := none }
    | true, true =>
      if a.gap.isSome then { enabled := true, mode := mode, pin := urgentNow, gap := none }
      else { enabled := true, mode := mode, pin := a.pin, gap := none }

/-- The end of a renewal gap (R102). -/
def Alert.gapEnded (a : Alert) (urgentNow : Bool) : Alert :=
  { a with gap := none, pin := a.enabled && urgentNow }

end Sys2Proof.Machine
end

