-- ==== Sys2Proof/Machine/Frames.lean ====
section
/-! DEFINITION. The bytes of the link: byte order (R154), the CRC (R155), the type codes (R171), the headers (R170),
and the payload layouts of EVT, captures, notices and replies. -/

namespace Sys2Proof.Machine

/-! ## Bytes -/

/-- One byte holding a small number. -/
def byteOf (n : Nat) : Byte := BitVec.ofNat 8 n

/-- 0 = no, 1 = yes. -/
def flagByte (b : Bool) : Byte := if b then 1#8 else 0#8

/-- A two-byte field, least significant byte first (R154). -/
def word16 (n : Nat) : List Byte := [byteOf n, byteOf (n / 256)]

/-- A four-byte field, least significant byte first (R154). -/
def word32 (t : Tick) : List Byte :=
  [t.extractLsb' 0 8, t.extractLsb' 8 8, t.extractLsb' 16 8, t.extractLsb' 24 8]

/-- A tick time that may be absent: 0 when absent (R21, R173). -/
def timeField (t : Option Tick) : List Byte := word32 (t.getD 0)

/-- A session that may be absent or NONE: 0, or 1..4 (R21). -/
def delivByte : Option Deliv → Byte
  | none => 0#8
  | some d => byteOf (d.val + 1)

/-! ## CRC (R155) -/

/-- One bit of the division by 1021h, most significant bit first. -/
def crcShift (c : BitVec 16) : BitVec 16 := if c.msb then (c <<< 1) ^^^ 0x1021#16 else c <<< 1

/-- `n` bits of the division. -/
def crcShifts : Nat → BitVec 16 → BitVec 16
  | 0, c => c
  | n + 1, c => crcShifts n (crcShift c)

/-- One byte entered most significant bit first. -/
def crcByte (c : BitVec 16) (b : Byte) : BitVec 16 := crcShifts 8 (c ^^^ (b.zeroExtend 16 <<< 8))

/-- The CRC over the bytes from LEN through the last payload byte (R155). -/
def crc16 (bytes : List Byte) : BitVec 16 := bytes.foldl crcByte 0xFFFF#16

/-- The two check bytes, low byte first (R155). -/
def crcBytes (bytes : List Byte) : List Byte :=
  [(crc16 bytes).extractLsb' 0 8, (crc16 bytes).extractLsb' 8 8]

/-! ## Request types (R171, R175) -/

/-- The request types. -/
inductive Request where
  | configSource | setAdmission | configLine | configTimer | startTimer | stopTimer | setTimebase | setAlert | reset
  | querySource | queryLines | queryTimer | readTime | querySession | snapshot | readCapture | discardCapture
  | openSession | close | setSession | resume | accept | returnOffer | done | doneTop
deriving DecidableEq, Repr

/-- The TYPE codes of the requests (R171). -/
def Request.code : Request → Byte
  | .configSource => 0x01#8
  | .setAdmission => 0x02#8
  | .configLine => 0x03#8
  | .configTimer => 0x04#8
  | .startTimer => 0x05#8
  | .stopTimer => 0x06#8
  | .setTimebase => 0x07#8
  | .setAlert => 0x08#8
  | .reset => 0x09#8
  | .querySource => 0x10#8
  | .queryLines => 0x11#8
  | .queryTimer => 0x12#8
  | .readTime => 0x13#8
  | .querySession => 0x14#8
  | .snapshot => 0x18#8
  | .readCapture => 0x19#8
  | .discardCapture => 0x1A#8
  | .openSession => 0x20#8
  | .close => 0x21#8
  | .setSession => 0x22#8
  | .resume => 0x23#8
  | .accept => 0x24#8
  | .returnOffer => 0x25#8
  | .done => 0x26#8
  | .doneTop => 0x27#8

/-- The request a TYPE code names, if any (R171). -/
def Request.ofCode (b : Byte) : Option Request :=
  match b.toNat with
  | 0x01 => some .configSource
  | 0x02 => some .setAdmission
  | 0x03 => some .configLine
  | 0x04 => some .configTimer
  | 0x05 => some .startTimer
  | 0x06 => some .stopTimer
  | 0x07 => some .setTimebase
  | 0x08 => some .setAlert
  | 0x09 => some .reset
  | 0x10 => some .querySource
  | 0x11 => some .queryLines
  | 0x12 => some .queryTimer
  | 0x13 => some .readTime
  | 0x14 => some .querySession
  | 0x18 => some .snapshot
  | 0x19 => some .readCapture
  | 0x1A => some .discardCapture
  | 0x20 => some .openSession
  | 0x21 => some .close
  | 0x22 => some .setSession
  | 0x23 => some .resume
  | 0x24 => some .accept
  | 0x25 => some .returnOffer
  | 0x26 => some .done
  | 0x27 => some .doneTop
  | _ => none

/-- The payload length of a request (R171). -/
def Request.payloadLen : Request → Nat
  | .configSource => 5
  | .setAdmission => 2
  | .configLine => 3
  | .configTimer => 5
  | .startTimer => 1
  | .stopTimer => 1
  | .setTimebase => 1
  | .setAlert => 2
  | .reset => 1
  | .querySource => 1
  | .queryLines => 0
  | .queryTimer => 1
  | .readTime => 0
  | .querySession => 1
  | .snapshot => 0
  | .readCapture => 1
  | .discardCapture => 0
  | .openSession => 6
  | .close => 0
  | .setSession => 6
  | .resume => 0
  | .accept => 1
  | .returnOffer => 1
  | .done => 1
  | .doneTop => 0

/-- The three sets of sessions of R175. -/
inductive SessionSet where
  | management | delivery | anySession
deriving DecidableEq, Repr

/-- The sessions each request may be sent on (R175). -/
def Request.sessions : Request → SessionSet
  | .configSource | .setAdmission | .configLine | .configTimer | .startTimer | .stopTimer | .setTimebase | .setAlert
  | .reset => .management
  | .openSession | .close | .setSession | .resume | .accept | .returnOffer | .done | .doneTop => .delivery
  | .querySource | .queryLines | .queryTimer | .readTime | .querySession | .snapshot | .readCapture
  | .discardCapture => .anySession

/-- The request may be sent on session `σ` (R175). -/
def Request.allowedOn (r : Request) (σ : SessId) : Bool :=
  match r.sessions with
  | .management => σ.val == 0
  | .delivery => σ.val != 0
  | .anySession => true

/-- The TYPE codes of the frames from the part (R171). -/
def replyCode : Byte := 0x80#8
def evtCode : Byte := 0x81#8
def helloCode : Byte := 0x90#8
def linkCode : Byte := 0x91#8
def stallCode : Byte := 0x92#8

/-! ## Codes of values -/

/-- The status values (R177). -/
def Status.code : Status → Byte
  | .ok => 0#8
  | .held => 1#8
  | .badSession => 2#8
  | .unknownType => 3#8
  | .wrongSession => 4#8
  | .badLength => 5#8
  | .badField => 6#8
  | .notOpen => 7#8
  | .alreadyOpen => 8#8
  | .notStalled => 9#8
  | .busySource => 10#8
  | .busySession => 11#8
  | .busyTimer => 12#8
  | .notInService => 13#8
  | .stale => 14#8
  | .captureEmpty => 15#8
  | .captureBusy => 16#8

/-- 0 = IDLE, 1 = PENDING, 2 = OFFERED, 3 = IN_SERVICE (R10). -/
def SourceState.code : SourceState → Byte
  | .idle => 0#8
  | .pending => 1#8
  | .offered => 2#8
  | .inService => 3#8

/-- 0 = OFF, 1 = HOLD, 2 = ON (R10). -/
def Admission.code : Admission → Byte
  | .off => 0#8
  | .hold => 1#8
  | .on => 2#8

/-- 0 = MANUAL, 1 = AUTO (R13). -/
def Completion.code : Completion → Byte
  | .manual => 0#8
  | .auto => 1#8

/-- The time base code (R120). -/
def TimeBase.code : TimeBase → Byte
  | .us1 => 0#8
  | .us10 => 1#8
  | .us100 => 2#8
  | .ms1 => 3#8

/-- 0 = ONE_SHOT, 1 = PERIODIC, 2 = GAP (R137). -/
def TimerMode.code : TimerMode → Byte
  | .oneShot => 0#8
  | .periodic => 1#8
  | .gap => 2#8

/-- 0 = STOPPED, 1 = RUNNING, 2 = WAITING (R136). -/
def TimerState.code : TimerState → Byte
  | .stopped => 0#8
  | .running => 1#8
  | .waiting => 2#8

/-- 0 = LEVEL, 1 = RENEW (R99). -/
def AlertMode.code : AlertMode → Byte
  | .level => 0#8
  | .renew => 1#8

/-- 0 = NESTED, 1 = FLAT, 2 = SINGLE (R77). -/
def SessionMode.code : SessionMode → Byte
  | .nested => 0#8
  | .flat => 1#8
  | .single => 2#8

/-- 0 = CLOSED, 1 = ACTIVE, 2 = STALLED (R89). -/
def SessionStatus.code : SessionStatus → Byte
  | .closed => 0#8
  | .active _ => 1#8
  | .stalled _ => 2#8

/-- The HELLO causes (R186). -/
def Cause.code : Cause → Byte
  | .power => 0#8
  | .pin => 1#8
  | .full => 2#8
  | .delivery => 3#8

/-- 0 = FULL, 1 = DELIVERY (R182). -/
def Scope.code : Scope → Byte
  | .full => 0#8
  | .delivery => 1#8

/-- The HELLO cause of a RESET (R184). -/
def Scope.cause : Scope → Cause
  | .full => .full
  | .delivery => .delivery

/-- The rate the straps select (R153). -/
def linkRateOf (br1 br0 : Bool) : LinkRate :=
  match br1, br0 with
  | false, false => .r115200
  | false, true => .r460800
  | true, false => .r921600
  | true, true => .r3000000

/-- The send phases of an offer (R48). -/
inductive SendPhase where
  | sending | awaiting | owed
deriving DecidableEq, Repr

/-- The send phase, read from the send owed flag and the ack deadline (R48). -/
def Offer.phase (o : Offer) : SendPhase :=
  if o.sendOwed then .owed else if o.ackDeadline.isSome then .awaiting else .sending

/-- 0 = SENDING, 1 = AWAITING, 2 = OWED (R89). -/
def SendPhase.code : SendPhase → Byte
  | .sending => 0#8
  | .awaiting => 1#8
  | .owed => 2#8

/-! ## Frames (R154, R170) -/

/-- A frame from the part, SYNC to the high check byte (R170). -/
def partFrame (sess type tag credit : Byte) (payload : List Byte) : List Byte :=
  let body := byteOf payload.length :: sess :: type :: tag :: credit :: payload
  Config.sync :: (body ++ crcBytes body)

/-- A frame from the host, SYNC to the high check byte (R170). -/
def hostFrame (f : ReqFrame) : List Byte :=
  let body := byteOf f.payload.length :: f.sess :: f.type :: f.tag :: f.payload
  Config.sync :: (body ++ crcBytes body)

/-- The payload of a REPLY frame (R177). -/
def Reply.payload (r : Reply) : List Byte := r.type :: r.status.code :: r.contents

/-- The EVT payload (R42, R172), with the line level at the start of this send. -/
def evtPayload (o : Offer) (lineLevel : Bool) : List Byte :=
  [byteOf o.source.val, byteOf o.priority.val] ++ word16 o.count ++ [flagByte o.saturated] ++ timeField o.firstTime ++
    timeField o.lastTime ++ [byteOf o.sendNumber, flagByte lineLevel]

/-- The HELLO payload (R186): cause, version, sources, delivery sessions. -/
def helloPayload (c : Cause) : List Byte := [c.code, Config.version, 32#8, 4#8]

/-- The LINK payload (R162). -/
def linkPayload (v : Receiver) : List Byte :=
  match v.lastDiscarded with
  | some (sess, tag) => [byteOf v.overruns, byteOf v.frameFaults, 1#8, sess, tag]
  | none => [byteOf v.overruns, byteOf v.frameFaults, 0#8, 0#8, 0#8]

/-- The STALL payload (R187). -/
def stallPayload (r : StallRecord) : List Byte :=
  [byteOf r.count, r.exhaustingDN.getD 0, byteOf r.withdrawn.length] ++ r.withdrawn.map fun x => byteOf x.val

/-! ## Contents of the query replies -/

/-- Milliseconds until a hold's expiry, rounded up; 0 when no hold is active (R21; log entry 1). -/
def holdByte (holdUntil : Option Instant) (clock : Instant) : Byte :=
  match holdUntil with
  | none => 0#8
  | some t => byteOf (max 1 ((t - clock + (Config.microsPerMilli - 1)) / Config.microsPerMilli))

/-- The 22 bytes of QUERY_SOURCE (R21). -/
def sourceContents (s : State) (x : SourceId) : List Byte :=
  let r := s.source x
  [byteOf x.val, flagByte (lineOf x).isNone, r.admission.code, byteOf r.priority.val, delivByte r.primary,
    delivByte r.fallback, r.completion.code, r.state.code, delivByte r.holder] ++
  word16 r.count ++ [flagByte r.saturated] ++ timeField r.firstTime ++ timeField r.lastTime ++
  [holdByte r.holdUntil s.clock, flagByte (s.lineLevel x)]

/-- Eight flags in one byte, the first in its lowest bit (R116, R125). -/
def packBits (bits : List Bool) : Byte :=
  bits.foldr (fun b acc => acc * 2 + flagByte b) 0#8

/-- The 6 bytes of QUERY_LINES: filtered levels, then raw levels (R116). -/
def linesContents (s : State) : List Byte :=
  let filtered := (List.finRange 24).map fun n => (s.line n).filtered
  let raw := (List.finRange 24).map fun n => (s.line n).raw
  let pack := fun bits : List Bool => [packBits (bits.take 8), packBits ((bits.drop 8).take 8), packBits (bits.drop 16)]
  pack filtered ++ pack raw

/-- The 14 bytes of QUERY_TIMER (R139). -/
def timerContents (s : State) (k : TimerId) : List Byte :=
  let t := s.timer k
  [byteOf k.val, t.mode.code, t.state.code] ++ word16 t.period ++ word16 (t.pendingPeriod.getD 0) ++
    word16 t.remaining ++ [byteOf t.watched.val] ++ word32 s.now

/-- The 6 bytes of READ_TIME (R125). -/
def timeContents (s : State) : List Byte :=
  word32 s.now ++
    [s.timeUnit.timeBase.code, packBits ((List.finRange 8).map fun k => (s.timer k).state != .stopped)]

/-- The six parameter bytes: 0 when absent (R84, R89). -/
def paramsContents : Option Params → List Byte
  | none => [0#8, 0#8, 0#8, 0#8, 0#8, 0#8]
  | some p =>
    [p.mode.code, byteOf p.window, byteOf p.threshold.val, byteOf p.ackTimeout, byteOf p.retryLimit,
      byteOf p.holdTime]

/-- The contents of QUERY_SESSION (R89). -/
def sessionContents (s : State) (d : Deliv) : List Byte :=
  let v := s.session d
  [byteOf (d.val + 1), v.status.code] ++ paramsContents v.params ++
    [v.nextDN, byteOf v.stall.count, flagByte s.transmitter.stallOwed[d], byteOf v.offers.length,
      byteOf v.inService.length] ++
    v.offers.flatMap (fun o =>
      [o.dn, byteOf o.source.val, byteOf o.priority.val, byteOf o.sendNumber, o.phase.code]) ++
    v.inService.flatMap fun e => [byteOf e.source.val, byteOf e.priority.val, e.dn]

/-- The copy of a source record that a capture holds (R143). -/
def captureEntryOf (r : Source) : CaptureEntry :=
  { state := r.state, holder := r.holder, admission := r.admission, priority := r.priority, count := r.count
    saturated := r.saturated, firstTime := r.firstTime, lastTime := r.lastTime, hold := r.isHeld }

/-- The 15 bytes of a capture entry (R173). -/
def CaptureEntry.bytes (e : CaptureEntry) : List Byte :=
  [e.state.code, delivByte e.holder, e.admission.code, byteOf e.priority.val] ++ word16 e.count ++
    [packBits [e.saturated, e.hold]] ++ timeField e.firstTime ++ timeField e.lastTime

/-- The capture entries of page `p`: sources 8p to 8p+7 (R142). -/
def Capture.page (c : Capture) (p : Fin 4) : List CaptureEntry := (c.entries.toList.drop (8 * p.val)).take 8

/-- The contents of a READ_CAPTURE reply: page, capture time, eight entries (R147). -/
def pageContents (c : Capture) (p : Fin 4) : List Byte :=
  [byteOf p.val] ++ word32 c.time ++ (c.page p).flatMap CaptureEntry.bytes

/-- The pages read, bit p for page p (R149). -/
def pagesByte (pages : Vector Bool 4) : Byte := packBits ((List.finRange 4).map fun p => pages[p])

/-- Each source with its state after it was handled, as the CLOSE reply lists it (R81). -/
def handledContents (s : State) (xs : List SourceId) : List Byte :=
  xs.flatMap fun x => [byteOf x.val, (s.source x).state.code]

end Sys2Proof.Machine
end

