-- ==== Sys2Proof/Machine/Tracker.lean ====
section
/-! DEFINITION. The service tracker: routing, eligibility and selection (R25 to R37), the creation of an offer, resends
and ack deadlines (R39 to R51), the stall (R53), and the withdrawals and abandonments of CLOSE (R64, R80). -/

namespace Sys2Proof.Machine

/-! ## Routing, eligibility, selection -/

/-- The target of a PENDING source (R25). -/
def State.target (s : State) (r : Source) : Option Deliv :=
  let usable := fun d : Option Deliv => d.filter fun d => (s.session d).isActive
  (usable r.primary) <|> (usable r.fallback)

/-- The mode condition for a source of priority `p` (R32, R33, R34). -/
def Session.modeAllows (v : Session) (mode : SessionMode) (p : Priority) : Bool :=
  match mode with
  | .nested => v.inService.all (fun e => e.priority < p) && v.offers.all (fun o => o.priority < p)
  | .flat => true
  | .single => v.offers.isEmpty && v.inService.isEmpty

/-- The session side of R29: ACTIVE, threshold, window, capacity and mode, for a source of priority `p`. -/
def Session.takes (v : Session) (p : Priority) : Bool :=
  match v.status with
  | .active q =>
    decide (q.threshold ≤ p) && decide (v.offers.length < q.window) && decide (v.load < Config.sessionCapacity) &&
      v.modeAllows q.mode p
  | .closed => false
  | .stalled _ => false

/-- Source `x` is eligible for a new offer at session `d` (R29). -/
def State.eligible (s : State) (d : Deliv) (x : SourceId) : Bool :=
  let r := s.source x
  r.state == .pending && r.admission == .on && !r.isHeld && s.target r == some d && (s.session d).takes r.priority

/-- The order in which the sources of one priority are counted: from the id after the pointer, wrapping, through the
pointer itself; from 0 when the pointer is absent (R37). -/
def rotationOrder : Option SourceId → List SourceId
  | none => List.finRange 32
  | some p => (List.finRange 32).map fun k => p + 1 + k

/-- The highest priority among the sources eligible at `d` (R36). -/
def State.topPriority (s : State) (d : Deliv) : Option Priority :=
  ((List.finRange 32).filter (s.eligible d)).foldl
    (fun best x => some (max (best.getD 0) (s.source x).priority)) none

/-- The source selected at `d` (R36, R37). -/
def State.select (s : State) (d : Deliv) : Option SourceId :=
  match s.topPriority d with
  | none => none
  | some p =>
    (rotationOrder (s.session d).rotation[p]).find? fun x => s.eligible d x && (s.source x).priority == p

/-- The first DN met by counting upward from `dn` that is not in `used` (R41); `fuel` values are passed over at most. -/
def freeDN : Nat → Byte → List Byte → Byte
  | 0, dn, _ => dn
  | fuel + 1, dn, used => if used.contains dn then freeDN fuel (dn + 1) used else dn

/-- The DN of the next offer of the session (R41). -/
def Session.assignDN (v : Session) : Byte := freeDN v.offers.length v.nextDN (v.offers.map Offer.dn)

/-! ## Offers and their sends -/

/-- The offer made of source `x` as its record stands (R14, R40). -/
def offerOf (r : Source) (x : SourceId) (dn : Byte) : Offer :=
  { dn := dn, source := x, priority := r.priority, count := r.count, saturated := r.saturated, firstTime := r.firstTime
    lastTime := r.lastTime, sendNumber := 1, sendOwed := false, ackDeadline := none }

/-- The record of a source claimed at `d` (R14). -/
def Source.claimed (r : Source) (d : Deliv) : Source := { r.emptied with state := .offered, holder := some d }

/-- The session after the creation of an offer (R38, R40, R41). -/
def Session.withOffer (v : Session) (o : Offer) : Session :=
  { v with
    nextDN := o.dn + 1
    offers := v.offers ++ [o]
    rotation := v.rotation.set o.priority (some o.source) }

/-- The claim of `x` and the creation of its offer at `d` (R14, R40); the urgent condition is judged (R97). -/
def State.createOffer (s : State) (d : Deliv) (x : SourceId) : State :=
  let v := s.session d
  let o := offerOf (s.source x) x v.assignDN
  ((s.setSource x ((s.source x).claimed d)).setSession d (v.withOffer o)).judged s

/-- The start of a resend (R49). -/
def Offer.resent (o : Offer) : Offer := { o with sendNumber := o.sendNumber + 1, sendOwed := false }

/-- Apply `f` to the oldest offer with `p`. -/
def updateFirst (p : Offer → Bool) (f : Offer → Offer) : List Offer → List Offer
  | [] => []
  | o :: os => if p o then f o :: os else o :: updateFirst p f os

/-- The session's answer to a poll: the offer whose EVT frame starts, and the state it leaves (R39). -/
def State.pollAnswer (s : State) (d : Deliv) : Option (Offer × State) :=
  let v := s.session d
  if v.isActive then
    match v.offers.find? Offer.sendOwed with
    | some o => some (o.resent, s.setSession d { v with offers := updateFirst Offer.sendOwed Offer.resent v.offers })
    | none =>
      match s.select d with
      | some x => some (offerOf (s.source x) x v.assignDN, s.createOffer d x)
      | none => none
  else none

/-- The end of an offer's EVT frame starts its ack deadline, if the offer still stands (R50). -/
def State.startAckDeadline (s : State) (d : Deliv) (dn : Byte) : State :=
  let v := s.session d
  match v.params with
  | none => s
  | some p =>
    s.setSession d { v with
      offers := updateFirst (fun o => o.dn == dn)
        (fun o => { o with ackDeadline := some (s.clock + Config.microsPerMilli * p.ackTimeout) }) v.offers }

/-- The offer becomes OWED (R51). -/
def Offer.owed (o : Offer) : Offer := { o with sendOwed := true, ackDeadline := none }

/-! ## Withdrawal, stall and abandonment -/

/-- Merge the sources of withdrawn offers, oldest first (R53, R64). -/
def State.mergeAll (s : State) (offers : List Offer) : State := offers.foldl State.merge s

/-- Apply the post-completion rule to abandoned entries, bottom to top (R64). -/
def State.completeAll (s : State) (entries : List Entry) : State :=
  entries.foldl (fun t e => t.complete e.source) s

/-- The stall record after a stall (R54). -/
def StallRecord.written (r : StallRecord) (dn : Byte) (withdrawn : List SourceId) : StallRecord :=
  { exhaustingDN := some dn, withdrawn := withdrawn, count := saturatingSucc Config.byteLimit r.count }

/-- The stall of session `d`, with parameters `p`, by the final expiry of offer `dn` (R53). -/
def State.stallSession (s : State) (d : Deliv) (p : Params) (dn : Byte) : State :=
  let v := s.session d
  let merged := s.mergeAll v.offers
  (merged.setSession d { v with
    status := .stalled p, offers := [], stall := v.stall.written dn (v.offers.map Offer.source) }).setStallOwed d true

/-- The capture buffer after a release by the CLOSE of session `d` (R150). -/
def State.releaseOwned (s : State) (d : Deliv) : State :=
  match s.capture with
  | some c => if c.owner = sessionNumber d then s.setCapture none else s
  | none => s

/-- What a taken CLOSE does (R80): withdraw, abandon, empty the stall record and its flag, close, release. -/
def State.closeSession (s : State) (d : Deliv) : State :=
  let v := s.session d
  let done := (s.mergeAll v.offers).completeAll v.inService
  ((done.setSession d { v with status := .closed, offers := [], inService := [], stall := .empty }).setStallOwed d
    false).releaseOwned d

/-- The contents of the CLOSE reply (R81). -/
def closeContents (s : State) (d : Deliv) : List Byte :=
  let v := s.session d
  let withdrawn := v.offers.map Offer.source
  let abandoned := v.inService.map Entry.source
  let merged := s.mergeAll v.offers
  let done := merged.completeAll v.inService
  [byteOf withdrawn.length] ++ handledContents merged withdrawn ++ [byteOf abandoned.length] ++
    handledContents done abandoned ++ [byteOf v.stall.count, byteOf v.stall.withdrawn.length] ++
    v.stall.withdrawn.map fun x => byteOf x.val

end Sys2Proof.Machine
end

