-- ==== Sys2Proof/Machine/Resets.lean ====
section
/-! DEFINITION. What each kind of reset does to every block (R22, R23, R45, R65, R90, R104, R117, R118, R140, R141, R151,
R168, R169, R184), and the flow of expiries to the source table that a reset may cut (R130, R132). -/

namespace Sys2Proof.Machine

/-- The blocks that every reset returns to their reset values alike: sessions, capture buffer, receiver, dispatcher and
transmitter, with the HELLO the reset leaves owed, if it has ended (R90, R151, R168, R169, R174, R178). -/
def State.resetLink (s : State) (hello : Option Cause) : State :=
  { s with
    sessions := Vector.replicate 4 Session.reset
    capture := none
    receiver := Receiver.reset
    dispatcher := Dispatcher.reset
    transmitter := Transmitter.reset hello }

/-- Every line at its reset value, with the filtered level set to the raw level of the latest sample (R117, R118). -/
def State.resetLines (s : State) : State :=
  s.setLines (Vector.ofFn fun n => Line.reset (s.line n).raw)

/-- Every block at its reset value (R22, R104, R117, R118, R140), with the instant of the next tick. -/
def State.resetAll (s : State) (nextTick : Option Instant) (hello : Option Cause) : State :=
  ((((s.resetLink hello).resetLines).setSources (Vector.replicate 32 Source.reset)).setTimeUnit
    (TimerUnit.reset nextTick)).setAlertBlock Alert.reset

/-- The instant of the first tick after a reset that ends now: one tick length of the reset time base (R120). -/
def State.firstTick (s : State) : Option Instant := some (s.clock + TimeBase.us10.micros)

/-- The part while it is held in reset: every block at its reset value, no tick marked and no HELLO owed yet
(R140, R168, R186). -/
def State.heldInReset (s : State) (phase : Phase) : State := (s.resetAll none none).setPhase phase

/-- The end of a power-on or pin reset: the straps are read, the ticks start and HELLO becomes owed (R120, R153, R168). -/
def State.endReset (s : State) (cause : Cause) (br1 br0 : Bool) : State :=
  ((s.resetAll s.firstTick (some cause)).setPhase .running).setLinkRate (linkRateOf br1 br0)

/-- RESET FULL takes effect (R184). -/
def State.resetFull (s : State) : State := s.resetAll s.firstTick (some .full)

/-- A source after RESET DELIVERY has cleared its delivery state (R23). -/
def Source.cleared (r : Source) : Source := { r.sentIdle with holdUntil := none }

/-- The sources that RESET DELIVERY raises: level-type, admit ON or HOLD, line asserted (R23). -/
def State.raisedByDelivery (s : State) (x : SourceId) : Bool :=
  (s.source x).admission != .off && s.isAsserted x

/-- The source table after RESET DELIVERY (R23). -/
def State.deliverySources (s : State) : Vector Source 32 :=
  Vector.ofFn fun x =>
    if s.raisedByDelivery x then (s.source x).cleared.raisedAt s.now else (s.source x).cleared

/-- RESET DELIVERY takes effect (R184): the sources are cleared and those still asserted raised, each restarting the GAP
timers that watch it (R23, R141); the pin follows the condition with no gap (R104). -/
def State.resetDelivery (s : State) : State :=
  let cleared := (s.resetLink (some .delivery)).setSources s.deliverySources
  let counted := ((List.finRange 32).filter s.raisedByDelivery).foldl State.countedOccurrence cleared
  counted.setAlertBlock
    { s.alert with gap := none, pin := s.alert.enabled && urgent counted.sources }

/-- The pending reset takes effect (R184). -/
def State.takeReset (s : State) : Scope → State
  | .full => s.resetFull
  | .delivery => s.resetDelivery

/-! ## Expiries -/

/-- The source table takes the expiry of timer `k` that carries the tick's value `t` (R130), judged by itself (R97). -/
def State.takeExpiry (s : State) (e : TimerId × Tick) : State :=
  (s.takeOccurrence (timerSource e.1) e.2).judged s

/-- The source table takes expiries one after the other (R132). -/
def State.takeExpiries (s : State) (es : List (TimerId × Tick)) : State := es.foldl State.takeExpiry s

/-- The expiries of the latest tick that still wait are taken (R146). -/
def State.flushExpiries (s : State) : State :=
  (s.setDueExpiries []).takeExpiries s.timeUnit.dueExpiries

/-- The timers that the next tick expires, in timer order. -/
def State.expiringTimers (s : State) : List TimerId := (List.finRange 8).filter fun k => (s.timer k).expiresAtTick

/-- The tick at the timer unit: the counter advances and every RUNNING timer is stepped (R121, R129). The next tick
falls one tick length after this one, without drift (R120). -/
def State.advanceTick (s : State) : State :=
  let due := s.timeUnit.nextTick.getD s.clock
  (s.reach due).setTimeUnit { s.timeUnit with
    counter := s.timeUnit.counter + 1
    nextTick := some (due + s.timeUnit.timeBase.micros)
    timers := Vector.ofFn fun k => (s.timer k).ticked }

/-- A whole tick: what waits from the tick before is taken, the tick is marked, and its expiries are taken with its
value in timer order (R121, R130, R132). -/
def State.tickOnce (s : State) : State :=
  let s0 := s.flushExpiries
  let s1 := s0.advanceTick
  s1.takeExpiries (s0.expiringTimers.map fun k => (k, s1.now))

/-- `n` whole ticks. -/
def State.ticks : Nat → State → State
  | 0, s => s
  | n + 1, s => State.ticks n s.tickOnce

end Sys2Proof.Machine
end

