-- ==== Sys2Proof/Machine/Link.lean ====
section
/-! DEFINITION. The link: receive slots and link faults (R157 to R162), the checks, execution and replay of a request
(R174 to R180), the transmitter's pick (R164, R165) and the end of a frame (R166). -/

namespace Sys2Proof.Machine

/-! ## Slots -/

/-- A slot is FREE (R160). -/
def State.slotFree (s : State) (i : SlotId) : Bool := s.receiver.slots[i] == .free

/-- The slot a good frame claims: the lowest that is free (R159; log entry 5). -/
def State.freeSlot (s : State) : Option SlotId := (List.finRange 4).find? s.slotFree

/-- CREDIT: the number of free receive slots (R160). -/
def State.credit (s : State) : Nat := ((List.finRange 4).filter s.slotFree).length

/-- Put a slot in a state. -/
def State.setSlot (s : State) (i : SlotId) (v : Slot) : State :=
  s.setReceiver { s.receiver with slots := s.receiver.slots.set i v }

/-- A good frame claims slot `i`, after every slot already in use (R159). -/
def State.claimSlot (s : State) (i : SlotId) (f : ReqFrame) : State :=
  s.setReceiver { s.receiver with
    slots := s.receiver.slots.set i (.request f), arrivals := s.receiver.arrivals ++ [i] }

/-- Slot `i` is freed (R160). -/
def State.releaseSlot (s : State) (i : SlotId) : State :=
  s.setReceiver { s.receiver with
    slots := s.receiver.slots.set i .free, arrivals := s.receiver.arrivals.filter (· != i) }

/-- The receiver returns to HUNT, where the gap timer does not run (R156). -/
def State.hunt (s : State) : State := s.setReceiver { s.receiver with framing := .hunt, gapTimer := none }

/-! ## Link faults -/

/-- LINK becomes owed (R162). -/
def State.oweLink (s : State) : State := s.setTransmitter { s.transmitter with linkOwed := true }

/-- An overrun (R159). -/
def State.takeOverrun (s : State) (sess tag : Byte) : State :=
  (s.setReceiver { s.receiver with
    overruns := saturatingSucc Config.byteLimit s.receiver.overruns, lastDiscarded := some (sess, tag) }).oweLink

/-- A frame fault (R157). -/
def State.takeFault (s : State) : State :=
  let h := s.hunt
  (h.setReceiver { h.receiver with frameFaults := saturatingSucc Config.byteLimit h.receiver.frameFaults }).oweLink

/-! ## Requests -/

/-- What an owner makes of a request: the reply's status and contents, the state it leaves, and whether the reply's end
starts a reset (R177, R182). -/
structure Answer where
  status : Status
  contents : List Byte
  next : State
  startsReset : Bool := false

/-- A taken request. -/
def Answer.ok (contents : List Byte) (next : State) : Answer := { status := .ok, contents := contents, next := next }

/-- A refused request: no contents, nothing changed (R177). -/
def Answer.refuse (status : Status) (s : State) : Answer := { status := status, contents := [], next := s }

/-- The owner of a request type: what it does with a payload of the right length on an allowed session. -/
abbrev Owner := SessId → List Byte → State → Answer

/-- Steps 2, 3 and 4 of R176: the first that fails. -/
def headerRefusal (σ : SessId) (type : Byte) (payload : List Byte) : Option Status :=
  match Request.ofCode type with
  | none => some .unknownType
  | some r =>
    if !r.allowedOn σ then some .wrongSession
    else if payload.length ≠ r.payloadLen then some .badLength
    else none

/-- A reply enters the queue at its newest end, and the slot of its request passes to REPLY (R174). -/
def State.queueReply (s : State) (r : Reply) : State :=
  (s.setTransmitter { s.transmitter with replyQueue := s.transmitter.replyQueue ++ [r] }).setSlot r.slot .reply

/-- The cache of session `σ` holds this answer (R179). -/
def State.fillCache (s : State) (σ : SessId) (c : CacheEntry) : State :=
  s.setDispatcher { s.dispatcher with caches := s.dispatcher.caches.set σ (some c) }

/-- The cached answer of a request equal in TYPE and TAG (R180). -/
def State.cachedAnswer (s : State) (σ : SessId) (type tag : Byte) : Option CacheEntry :=
  s.dispatcher.caches[σ].filter fun c => c.type == type && c.tag == tag

/-- Steps 2 to 6 of R176: the answer of a request that is not replayed. -/
def answerOf (owner : Owner) (σ : SessId) (type : Byte) (payload : List Byte) (s : State) : Answer :=
  match headerRefusal σ type payload with
  | some status => .refuse status s
  | none => owner σ payload s

/-- Place the answer of a request of session `σ`: the reply and the cache (R174, R179). -/
def Answer.place (a : Answer) (slot : SlotId) (σ : SessId) (f : ReqFrame) : State :=
  (a.next.queueReply
    { slot := slot, sess := f.sess, tag := f.tag, type := f.type, status := a.status, contents := a.contents
      startsReset := a.startsReset }).fillCache σ
    { type := f.type, tag := f.tag, status := a.status, contents := a.contents }

/-- One execution by the dispatcher of the request in slot `slot` (R174, R176, R179, R180). -/
def State.execute (s : State) (owner : Owner) (slot : SlotId) (f : ReqFrame) : State :=
  if h : f.sess.toNat < 5 then
    let σ : SessId := ⟨f.sess.toNat, h⟩
    match s.cachedAnswer σ f.type f.tag with
    | some c =>
      s.queueReply
        { slot := slot, sess := f.sess, tag := f.tag, type := f.type, status := c.status, contents := c.contents
          startsReset := false }
    | none => (answerOf owner σ f.type f.payload s).place slot σ f
  else
    s.queueReply
      { slot := slot, sess := f.sess, tag := f.tag, type := f.type, status := .badSession, contents := []
        startsReset := false }

/-- A good frame whose high check byte completes (R156, R159, R174, R183): it claims a slot or is an overrun; while the
dispatcher is NORMAL it is executed at that moment. Nothing on LRX is read while the part is held in reset (R168). -/
def State.goodFrame (s : State) (owner : Owner) (f : ReqFrame) : State :=
  if s.isRunning then
    let h := s.hunt
    match h.freeSlot with
    | none => h.takeOverrun f.sess f.tag
    | some slot =>
      let claimed := h.claimSlot slot f
      match claimed.dispatcher.pendingReset with
      | some _ => claimed
      | none => claimed.execute owner slot f
  else s

/-- An owner acting on the delivery session of its header (R175). -/
def onDelivery (f : Deliv → List Byte → State → Answer) : Owner := fun σ payload s =>
  match delivOf σ with
  | some d => f d payload s
  | none => .refuse .wrongSession s

/-! ## The transmitter -/

/-- A frame starts: its bytes are fixed with the CREDIT of this moment (R160, R166). -/
def State.startFrame (s : State) (kind : TxKind) (sess type tag : Byte) (payload : List Byte) : State :=
  s.setTransmitter { s.transmitter with
    frame := some { kind := kind, bytes := partFrame sess type tag (byteOf s.credit) payload } }

/-- The oldest reply leaves the queue and starts (R163, R164). -/
def State.startReply (s : State) (r : Reply) (rest : List Reply) : State :=
  (s.setTransmitter { s.transmitter with replyQueue := rest }).startFrame (.reply r.slot r.startsReset) r.sess replyCode
    r.tag r.payload

/-- HELLO starts and its flag and cause are cleared (R186). -/
def State.startHello (s : State) (c : Cause) : State :=
  (s.setTransmitter { s.transmitter with hello := none }).startFrame .hello 0 helloCode 0 (helloPayload c)

/-- LINK starts: the figures are copied into it and cleared with the flag (R162). -/
def State.startLink (s : State) : State :=
  ((s.setTransmitter { s.transmitter with linkOwed := false }).setReceiver
    { s.receiver with overruns := 0, lastDiscarded := none, frameFaults := 0 }).startFrame .link 0 linkCode 0
    (linkPayload s.receiver)

/-- STALL of session `d` starts: the record is copied into it and emptied, and the flag cleared (R54, R187). -/
def State.startStall (s : State) (d : Deliv) : State :=
  ((s.setStallOwed d false).setSession d { s.session d with stall := .empty }).startFrame (.stall d)
    (byteOf (d.val + 1)) stallCode 0 (stallPayload (s.session d).stall)

/-- The EVT frame of offer `o` starts, and the round-robin pointer becomes its session (R49, R165, R172). -/
def State.startEvt (s : State) (d : Deliv) (o : Offer) : State :=
  (s.setTransmitter { s.transmitter with rrPointer := some d }).startFrame (.evt d o.dn) (byteOf (d.val + 1)) evtCode
    o.dn (evtPayload o (s.lineLevel o.source))

/-- The order in which the sessions are polled (R165). -/
def pollOrder : Option Deliv → List Deliv
  | none => List.finRange 4
  | some p => (List.finRange 4).map fun k => p + 1 + k

/-- Poll the sessions in this order; the first that answers with a frame is served (R165). -/
def State.poll (s : State) : List Deliv → State
  | [] => s
  | d :: rest =>
    match s.pollAnswer d with
    | some (o, s') => s'.startEvt d o
    | none => s.poll rest

/-- The first session whose STALL notice is owed (R164). -/
def State.firstStall (s : State) : Option Deliv := (List.finRange 4).find? fun d => s.transmitter.stallOwed[d]

/-- One pick (R164). -/
def State.pickFrame (s : State) : State :=
  match s.transmitter.replyQueue with
  | r :: rest => s.startReply r rest
  | [] =>
    match s.transmitter.hello with
    | some c => s.startHello c
    | none =>
      if s.transmitter.linkOwed then s.startLink
      else
        match s.firstStall with
        | some d => s.startStall d
        | none => s.poll (pollOrder s.transmitter.rrPointer)

/-- LTX falls idle (R166). -/
def State.frameGone (s : State) : State := s.setTransmitter { s.transmitter with frame := none }

/-- What the end of a reply frame does, with the pick taken at it (R160, R161, R166, R167, R184). -/
def State.replyEnded (s : State) (slot : SlotId) (startsReset : Bool) (order : EndOrder) : State :=
  match startsReset, s.dispatcher.pendingReset with
  | true, some scope => ((s.releaseSlot slot).takeReset scope).pickFrame
  | _, _ =>
    match order with
    | .freeThenPick => (s.releaseSlot slot).pickFrame
    | .pickThenFree => s.pickFrame.releaseSlot slot

/-- The end of a frame on LTX: its effect by kind, and a pick (R166). -/
def State.frameEnded (s : State) (kind : TxKind) (order : EndOrder) : State :=
  let idle := s.frameGone
  match kind with
  | .reply slot startsReset => idle.replyEnded slot startsReset order
  | .evt d dn => (idle.startAckDeadline d dn).pickFrame
  | .hello => idle.pickFrame
  | .link => idle.pickFrame
  | .stall _ => idle.pickFrame

end Sys2Proof.Machine
end

