-- ==== Sys2Proof/Machine/Events.lean ====
section
/-! DEFINITION. The happenings of the reference clock, of the timers and of the event lines: ACK_DEADLINE_EXPIRY,
HOLD_EXPIRY, RENEWAL_GAP_END, TICK, TIMER_EXPIRY, LINE_SAMPLE, OCCURRENCE, ASSERTION and DEASSERTION. A happening the
state gives no ground for (no such deadline, no hold, no change of level) changes nothing (log entry 6). -/

namespace Sys2Proof.Machine

/-! ## The reference clock -/

/-- The AWAITING offer named by `dn` at session `d`, with its deadline (R48, R51). -/
def State.awaiting (s : State) (d : Deliv) (dn : Byte) : Option (Offer × Instant) :=
  match (s.session d).offers.find? fun o => o.dn == dn with
  | some o => o.ackDeadline.map fun t => (o, t)
  | none => none

/-- ACK_DEADLINE_EXPIRY (R51, R53). -/
def execAckDeadlineExpiry (d : Deliv) (dn : Byte) (s : State) : Host.Outcome State Fault Refusal :=
  match s.isRunning, (s.session d).status, s.awaiting d dn with
  | true, .active p, some (o, t) =>
    let r := s.reach t
    if o.sendNumber ≤ p.retryLimit then
      let v := r.session d
      .next (r.setSession d { v with offers := updateFirst (fun o => o.dn == dn) Offer.owed v.offers })
    else .next ((r.stallSession d p dn).judged r)
  | _, _, _ => .next s

/-- HOLD_EXPIRY (R20). -/
def execHoldExpiry (x : SourceId) (s : State) : Host.Outcome State Fault Refusal :=
  match s.isRunning, (s.source x).holdUntil with
  | true, some t =>
    let r := s.reach t
    .next ((r.setSource x { r.source x with holdUntil := none }).judged r)
  | _, _ => .next s

/-- RENEWAL_GAP_END (R102). -/
def execRenewalGapEnd (s : State) : Host.Outcome State Fault Refusal :=
  match s.isRunning, s.alert.gap with
  | true, some t =>
    let r := s.reach t
    .next (r.setAlertBlock (r.alert.gapEnded (urgent r.sources)))
  | _, _ => .next s

/-! ## Ticks -/

/-- TICK (R121): no tick is marked while the part is held in reset (R140). -/
def execTick (s : State) : Host.Outcome State Fault Refusal :=
  if s.isRunning then .next s.tickOnce else .next s

/-- The tick that expires timer `k`, of whose expiries only that of `k` is taken at once: the others wait for their own
TIMER_EXPIRY, the next tick or a SNAPSHOT (R132, R146; log entry 4). -/
def State.tickFor (s : State) (k : TimerId) : State :=
  let s0 := s.flushExpiries
  let s1 := s0.advanceTick
  (s1.setDueExpiries ((s0.expiringTimers.filter (· != k)).map fun j => (j, s1.now))).takeExpiry (k, s1.now)

/-- TIMER_EXPIRY (R130, R131): the waiting expiry of timer `k` is taken, or, for a RUNNING timer, the ticks pass that
bring its remaining to 0. -/
def execTimerExpiry (k : TimerId) (s : State) : Host.Outcome State Fault Refusal :=
  if s.isRunning then
    match s.timeUnit.dueExpiries.find? fun e => e.1 == k with
    | some e =>
      .next ((s.setDueExpiries (s.timeUnit.dueExpiries.eraseP fun e => e.1 == k)).takeExpiry e)
    | none =>
      if (s.timer k).state = .running then .next ((State.ticks ((s.timer k).remaining - 1) s).tickFor k)
      else .next s
  else .next s

/-! ## Event lines -/

/-- What a change of the filtered level reports to the source table (R109). -/
inductive Report where
  | occurrence | assertion | deassertion | nothing
deriving DecidableEq, Repr

/-- The table of R109, by the new level. -/
def Sense.report (e : Sense) (level : Bool) : Report :=
  match e, level with
  | .rise, true => .occurrence
  | .rise, false => .nothing
  | .fall, true => .nothing
  | .fall, false => .occurrence
  | .both, _ => .occurrence
  | .high, true => .assertion
  | .high, false => .deassertion
  | .low, true => .deassertion
  | .low, false => .assertion

/-- The source table takes a report of line `n`, stamped with the present time (R109, R110). -/
def State.takeReport (s : State) (n : LineId) (r : Report) : State :=
  match r with
  | .occurrence => s.takeOccurrence (lineSource n) s.now
  | .assertion => s.takeAssertion (lineSource n)
  | .deassertion => s.takeDeassertion (lineSource n)
  | .nothing => s

/-- The line record when its filtered level becomes the raw level (R107). -/
def Line.accepted (l : Line) (level : Bool) : Line := { l with raw := level, filtered := level, runCount := 0 }

/-- The filtered level of line `n` becomes `level` and the report is taken, a happening of its own for the alert output
(R107, R109, R111). -/
def State.changeLevel (s : State) (n : LineId) (level : Bool) : State :=
  ((s.setLine n ((s.line n).accepted level)).takeReport n ((s.line n).sense.report level)).judged s

/-- One sample of line `n` (R106, R107), judged under the settings in force, also just after a CONFIG_LINE (R115; log entry
17). -/
def State.sampleLine (s : State) (levels : BitVec 24) (n : LineId) : State :=
  let l := s.line n
  let level := levels.getLsbD n.val
  if level = l.filtered then s.setLine n { l with raw := level, runCount := 0 }
  else if l.runCount < l.filter then s.setLine n { l with raw := level, runCount := l.runCount + 1 }
  else s.changeLevel n level

/-- One sample of line `n` while the part is held in reset: both levels follow the pin (R117). -/
def State.sampleInReset (s : State) (levels : BitVec 24) (n : LineId) : State :=
  s.setLine n { s.line n with raw := levels.getLsbD n.val, filtered := levels.getLsbD n.val }

/-- LINE_SAMPLE (R106, R107, R109, R117): the reports of one sample are taken in line order (log entry 7). -/
def execLineSample (levels : BitVec 24) (s : State) : Host.Outcome State Fault Refusal :=
  let r := s.setClock (s.clock + Config.samplePeriod)
  if s.isRunning then .next ((List.finRange 24).foldl (fun t n => t.sampleLine levels n) r)
  else .next ((List.finRange 24).foldl (fun t n => t.sampleInReset levels n) r)

/-- OCCURRENCE (R5, R109): line `n`'s filtered level changes to `level`, and its sense makes that an occurrence. -/
def execOccurrence (n : LineId) (level : Bool) (s : State) : Host.Outcome State Fault Refusal :=
  if s.isRunning ∧ (s.line n).filtered ≠ level ∧ (s.line n).sense.report level = .occurrence then
    .next (s.changeLevel n level)
  else .next s

/-- ASSERTION (R6, R109): level-type line `n` becomes asserted. -/
def execAssertion (n : LineId) (s : State) : Host.Outcome State Fault Refusal :=
  match (s.line n).sense.assertedLevel with
  | some level => if s.isRunning ∧ (s.line n).filtered ≠ level then .next (s.changeLevel n level) else .next s
  | none => .next s

/-- DEASSERTION (R7, R109): level-type line `n` becomes deasserted. -/
def execDeassertion (n : LineId) (s : State) : Host.Outcome State Fault Refusal :=
  match (s.line n).sense.assertedLevel with
  | some level => if s.isRunning ∧ (s.line n).filtered = level then .next (s.changeLevel n (!level)) else .next s
  | none => .next s

end Sys2Proof.Machine
end

