-- ==== Sys2Proof/Machine/Captures.lean ====
section
/-! DEFINITION. The capture buffer's requests: SNAPSHOT, READ_CAPTURE and DISCARD_CAPTURE. -/

namespace Sys2Proof.Machine

/-- The capture of all 32 records at this instant for owner `σ` (R144). -/
def State.captureNow (s : State) (σ : SessId) : Capture :=
  { owner := σ, time := s.now, entries := Vector.ofFn fun x => captureEntryOf (s.source x)
    pagesRead := Vector.replicate 4 false }

/-- The contents of a SNAPSHOT reply, OK or HELD (R144, R145). -/
def snapshotContents (c : Capture) : List Byte := word32 c.time ++ [byteOf c.owner.val]

/-- SNAPSHOT (R144, R145). The expiries of the latest tick reach the source table before the copy (R146). -/
def ownSnapshot : Owner := fun σ _ s =>
  match s.capture with
  | some c => { status := .held, contents := snapshotContents c, next := s }
  | none =>
    let t := s.flushExpiries
    let c := t.captureNow σ
    .ok (snapshotContents c) (t.setCapture (some c))

/-- A capture with page `p` added to its pages read: released by the read that completes the set (R147, R148). -/
def Capture.afterRead (c : Capture) (p : Fin 4) : Option Capture :=
  let pages := c.pagesRead.set p true
  if (List.finRange 4).all fun q => pages[q] then none else some { c with pagesRead := pages }

/-- READ_CAPTURE (R147, R148). -/
def ownReadCapture : Owner := fun σ payload s =>
  match readPage payload with
  | none => .refuse .badField s
  | some p =>
    match s.capture with
    | none => .refuse .captureEmpty s
    | some c =>
      if c.owner = σ then .ok (pageContents c p) (s.setCapture (c.afterRead p)) else .refuse .captureBusy s

/-- DISCARD_CAPTURE (R149). -/
def ownDiscardCapture : Owner := fun σ _ s =>
  match s.capture with
  | none => .refuse .captureEmpty s
  | some c =>
    if c.owner = σ then .ok [pagesByte c.pagesRead] (s.setCapture none) else .refuse .captureBusy s

/-- The command SNAPSHOT. -/
def execSnapshot (sess tag : Byte) (payload : List Byte) (s : State) : Host.Outcome State Fault Refusal :=
  .next (s.goodFrame ownSnapshot { sess := sess, type := Request.snapshot.code, tag := tag, payload := payload })

/-- The command READ_CAPTURE. -/
def execReadCapture (sess tag : Byte) (payload : List Byte) (s : State) : Host.Outcome State Fault Refusal :=
  .next (s.goodFrame ownReadCapture { sess := sess, type := Request.readCapture.code, tag := tag, payload := payload })

/-- The command DISCARD_CAPTURE. -/
def execDiscardCapture (sess tag : Byte) (payload : List Byte) (s : State) : Host.Outcome State Fault Refusal :=
  .next (s.goodFrame ownDiscardCapture { sess := sess, type := Request.discardCapture.code, tag := tag, payload := payload })

end Sys2Proof.Machine
end

