-- ==== Sys2Proof/Machine/Delivery.lean ====
section
/-! DEFINITION. The requests of the delivery sessions: OPEN, CLOSE, SET_SESSION, RESUME, ACCEPT, RETURN, DONE and
DONE_TOP. -/

namespace Sys2Proof.Machine

/-- OPEN (R77, R78). -/
def ownOpen : Owner := onDelivery fun d payload s =>
  match readParams payload with
  | none => .refuse .badField s
  | some p =>
    let v := s.session d
    match v.status with
    | .closed => .ok [v.nextDN] (s.setSession d { v with status := .active p })
    | .active _ | .stalled _ => .refuse .alreadyOpen s

/-- CLOSE (R80, R81). -/
def ownClose : Owner := onDelivery fun d _ s =>
  match (s.session d).status with
  | .closed => .refuse .notOpen s
  | .active _ | .stalled _ => .ok (closeContents s d) ((s.closeSession d).judged s)

/-- SET_SESSION is refused when mode or window would change while either list holds an entry (R84). -/
def Session.shapeLocked (v : Session) (old new : Params) : Bool :=
  (old.mode != new.mode || old.window != new.window) && v.load != 0

/-- SET_SESSION (R84). -/
def ownSetSession : Owner := onDelivery fun d payload s =>
  match readParams payload with
  | none => .refuse .badField s
  | some p =>
    let v := s.session d
    match v.status with
    | .closed => .refuse .notOpen s
    | .active q =>
      if v.shapeLocked q p then .refuse .busySession s
      else .ok (paramsContents (some p)) (s.setSession d { v with status := .active p })
    | .stalled q =>
      if v.shapeLocked q p then .refuse .busySession s
      else .ok (paramsContents (some p)) (s.setSession d { v with status := .stalled p })

/-- RESUME (R87). -/
def ownResume : Owner := onDelivery fun d _ s =>
  let v := s.session d
  match v.status with
  | .closed => .refuse .notOpen s
  | .active _ => .refuse .notStalled s
  | .stalled p => .ok [byteOf v.inService.length] (s.setSession d { v with status := .active p })

/-- The session without the offer `dn` (R57, R60). -/
def Session.withoutOffer (v : Session) (dn : Byte) : Session :=
  { v with offers := v.offers.eraseP fun o => o.dn == dn }

/-- The acceptance of offer `o` at session `d` (R16, R57, R58). -/
def State.acceptOffer (s : State) (d : Deliv) (o : Offer) : State :=
  let v := (s.session d).withoutOffer o.dn
  match (s.source o.source).completion with
  | .manual =>
    (s.setSource o.source { s.source o.source with state := .inService, holder := some d }).setSession d
      { v with inService := v.inService ++ [{ source := o.source, priority := o.priority, dn := o.dn }] }
  | .auto => (s.setSession d v).complete o.source

/-- ACCEPT (R57, R58, R59). -/
def ownAccept : Owner := onDelivery fun d payload s =>
  match readDN payload with
  | none => .refuse .badField s
  | some dn =>
    match (s.session d).status with
    | .closed => .refuse .notOpen s
    | .stalled _ => .refuse .stale s
    | .active _ =>
      match (s.session d).offers.find? fun o => o.dn == dn with
      | none => .refuse .stale s
      | some o =>
        let s' := (s.acceptOffer d o).judged s
        .ok ([byteOf o.source.val, (s'.source o.source).state.code] ++ word16 o.count) s'

/-- The return of offer `o` at session `d`, whose hold time is `holdTime` (R17, R19, R60). -/
def State.giveBack (s : State) (d : Deliv) (o : Offer) (holdTime : Nat) : State :=
  ((s.setSession d ((s.session d).withoutOffer o.dn)).merge o).holdReturned o.source holdTime

/-- RETURN (R60). -/
def ownReturn : Owner := onDelivery fun d payload s =>
  match readDN payload with
  | none => .refuse .badField s
  | some dn =>
    match (s.session d).status with
    | .closed => .refuse .notOpen s
    | .stalled _ => .refuse .stale s
    | .active p =>
      match (s.session d).offers.find? fun o => o.dn == dn with
      | none => .refuse .stale s
      | some o =>
        let s' := (s.giveBack d o p.holdTime).judged s
        .ok [byteOf o.source.val, (s'.source o.source).state.code] s'

/-- The completion of source `x`'s service at session `d`: its entry leaves the list and the post-completion rule is
applied (R18, R61). -/
def State.finish (s : State) (d : Deliv) (x : SourceId) : State :=
  let v := s.session d
  (s.setSession d { v with inService := v.inService.eraseP fun e => e.source == x }).complete x

/-- DONE (R61). -/
def ownDone : Owner := onDelivery fun d payload s =>
  match readSource payload with
  | none => .refuse .badField s
  | some x =>
    match (s.session d).status with
    | .closed => .refuse .notOpen s
    | .active _ | .stalled _ =>
      if (s.source x).state = .inService ∧ (s.source x).holder = some d then
        let s' := (s.finish d x).judged s
        .ok [byteOf x.val, (s'.source x).state.code] s'
      else .refuse .notInService s

/-- The completion of the top entry, for source `x` (R62). -/
def State.finishTop (s : State) (d : Deliv) (x : SourceId) : State :=
  let v := s.session d
  (s.setSession d { v with inService := v.inService.dropLast }).complete x

/-- DONE_TOP (R62). -/
def ownDoneTop : Owner := onDelivery fun d _ s =>
  match (s.session d).status with
  | .closed => .refuse .notOpen s
  | .active _ | .stalled _ =>
    match (s.session d).inService.getLast? with
    | none => .refuse .notInService s
    | some e =>
      let s' := (s.finishTop d e.source).judged s
      .ok [byteOf e.source.val, (s'.source e.source).state.code] s'

/-- The command OPEN. -/
def execOpen (sess tag : Byte) (payload : List Byte) (s : State) : Host.Outcome State Fault Refusal :=
  .next (s.goodFrame ownOpen { sess := sess, type := Request.openSession.code, tag := tag, payload := payload })

/-- The command CLOSE. -/
def execClose (sess tag : Byte) (payload : List Byte) (s : State) : Host.Outcome State Fault Refusal :=
  .next (s.goodFrame ownClose { sess := sess, type := Request.close.code, tag := tag, payload := payload })

/-- The command SET_SESSION. -/
def execSetSession (sess tag : Byte) (payload : List Byte) (s : State) : Host.Outcome State Fault Refusal :=
  .next (s.goodFrame ownSetSession { sess := sess, type := Request.setSession.code, tag := tag, payload := payload })

/-- The command RESUME. -/
def execResume (sess tag : Byte) (payload : List Byte) (s : State) : Host.Outcome State Fault Refusal :=
  .next (s.goodFrame ownResume { sess := sess, type := Request.resume.code, tag := tag, payload := payload })

/-- The command ACCEPT. -/
def execAccept (sess tag : Byte) (payload : List Byte) (s : State) : Host.Outcome State Fault Refusal :=
  .next (s.goodFrame ownAccept { sess := sess, type := Request.accept.code, tag := tag, payload := payload })

/-- The command RETURN. -/
def execReturn (sess tag : Byte) (payload : List Byte) (s : State) : Host.Outcome State Fault Refusal :=
  .next (s.goodFrame ownReturn { sess := sess, type := Request.returnOffer.code, tag := tag, payload := payload })

/-- The command DONE. -/
def execDone (sess tag : Byte) (payload : List Byte) (s : State) : Host.Outcome State Fault Refusal :=
  .next (s.goodFrame ownDone { sess := sess, type := Request.done.code, tag := tag, payload := payload })

/-- The command DONE_TOP. -/
def execDoneTop (sess tag : Byte) (payload : List Byte) (s : State) : Host.Outcome State Fault Refusal :=
  .next (s.goodFrame ownDoneTop { sess := sess, type := Request.doneTop.code, tag := tag, payload := payload })

end Sys2Proof.Machine
end

