-- ==== Sys2Proof/Machine/Management.lean ====
section
/-! DEFINITION. The requests of the management session: CONFIG_SOURCE, SET_ADMIT, CONFIG_LINE, CONFIG_TIMER,
START_TIMER, STOP_TIMER, SET_TIMEBASE, SET_ALERT and RESET. -/

namespace Sys2Proof.Machine

/-- CONFIG_SOURCE (R13). -/
def ownConfigSource : Owner := fun _ payload s =>
  match readConfigSource payload with
  | none => .refuse .badField s
  | some a =>
    let r := s.source a.source
    if r.state = .idle ∨ r.state = .pending then
      .ok [byteOf a.source.val]
        ((s.setSource a.source { r with
          priority := a.priority, primary := a.primary, fallback := a.fallback, completion := a.completion }).judged s)
    else .refuse .busySource s

/-- SET_ADMIT (R10, R11, R12). -/
def ownSetAdmission : Owner := fun _ payload s =>
  match readSetAdmission payload with
  | none => .refuse .badField s
  | some (x, new) =>
    let s' := (s.changeAdmission x new).judged s
    .ok [byteOf x.val, (s.source x).admission.code, (s'.source x).state.code] s'

/-- CONFIG_LINE (R114, R115). Taken just before a sample of the same instant on a line with filter 0 it has no run to
discard, and R116's row then leaves open whether that sample may still raise the source: the model judges it under the new
settings, as R115 says of the next sample (DESIGN CHOICE, log entry 17). -/
def ownConfigLine : Owner := fun _ payload s =>
  match readConfigLine payload with
  | none => .refuse .badField s
  | some a =>
    let l := s.line a.line
    if (s.source (lineSource a.line)).state = .idle then
      .ok [byteOf a.line.val, flagByte l.raw]
        (s.setLine a.line { l with sense := a.sense, filter := a.filter, filtered := l.raw, runCount := 0 })
    else .refuse .busySource s

/-- CONFIG_TIMER (R137). -/
def ownConfigTimer : Owner := fun _ payload s =>
  match readConfigTimer payload with
  | none => .refuse .badField s
  | some a =>
    let t := s.timer a.timer
    let taken := fun t' : Timer =>
      Answer.ok
        ([byteOf a.timer.val, t'.state.code] ++ word16 t'.period ++ word16 (t'.pendingPeriod.getD 0))
        (s.setTimer a.timer t')
    if t.state = .stopped then
      taken { t with mode := a.mode, period := a.period, watched := a.watched, pendingPeriod := none }
    else if t.mode = a.mode ∧ t.watched = a.watched then taken { t with pendingPeriod := some a.period }
    else .refuse .busyTimer s

/-- START_TIMER (R135). -/
def ownStartTimer : Owner := fun _ payload s =>
  match readTimer payload with
  | none => .refuse .badField s
  | some k =>
    let t := (s.timer k).started
    .ok ([byteOf k.val] ++ word16 t.remaining ++ word16 t.period) (s.setTimer k t)

/-- STOP_TIMER (R136). -/
def ownStopTimer : Owner := fun _ payload s =>
  match readTimer payload with
  | none => .refuse .badField s
  | some k =>
    let t := s.timer k
    .ok ([byteOf k.val, t.state.code] ++ word16 t.remaining) (s.setTimer k { t with state := .stopped })

/-- All eight timers are STOPPED (R123). -/
def State.allStopped (s : State) : Bool := (List.finRange 8).all fun k => (s.timer k).state == .stopped

/-- The timer unit after a taken SET_TIMEBASE (R120, R123): the ticks restart from this moment. -/
def State.restartTicks (s : State) (b : TimeBase) : State :=
  s.setTimeUnit { s.timeUnit with timeBase := b, counter := 0, nextTick := some (s.clock + b.micros) }

/-- SET_TIMEBASE (R123). -/
def ownSetTimebase : Owner := fun _ payload s =>
  match readTimeBase payload with
  | none => .refuse .badField s
  | some b =>
    if s.allStopped then .ok ([b.code] ++ word32 s.now) (s.restartTicks b) else .refuse .busyTimer s

/-- SET_ALERT (R99, R103). -/
def ownSetAlert : Owner := fun _ payload s =>
  match readSetAlert payload with
  | none => .refuse .badField s
  | some (enabled, mode) =>
    let u := urgent s.sources
    let a := s.alert.configure enabled mode u
    .ok [flagByte a.enabled, a.mode.code, flagByte u, flagByte a.pin] (s.setAlertBlock a)

/-- The dispatcher becomes RESET_PENDING (R174, R182). -/
def State.awaitReset (s : State) (scope : Scope) : State :=
  s.setDispatcher { s.dispatcher with pendingReset := some scope }

/-- RESET (R182): it takes effect at the end of its reply. -/
def ownReset : Owner := fun _ payload s =>
  match readScope payload with
  | none => .refuse .badField s
  | some scope =>
    { status := .ok, contents := [scope.code], next := s.awaitReset scope, startsReset := true }

/-- The command CONFIG_SOURCE. -/
def execConfigSource (sess tag : Byte) (payload : List Byte) (s : State) : Host.Outcome State Fault Refusal :=
  .next (s.goodFrame ownConfigSource { sess := sess, type := Request.configSource.code, tag := tag, payload := payload })

/-- The command SET_ADMIT. -/
def execSetAdmission (sess tag : Byte) (payload : List Byte) (s : State) : Host.Outcome State Fault Refusal :=
  .next (s.goodFrame ownSetAdmission { sess := sess, type := Request.setAdmission.code, tag := tag, payload := payload })

/-- The command CONFIG_LINE. -/
def execConfigLine (sess tag : Byte) (payload : List Byte) (s : State) : Host.Outcome State Fault Refusal :=
  .next (s.goodFrame ownConfigLine { sess := sess, type := Request.configLine.code, tag := tag, payload := payload })

/-- The command CONFIG_TIMER. -/
def execConfigTimer (sess tag : Byte) (payload : List Byte) (s : State) : Host.Outcome State Fault Refusal :=
  .next (s.goodFrame ownConfigTimer { sess := sess, type := Request.configTimer.code, tag := tag, payload := payload })

/-- The command START_TIMER. -/
def execStartTimer (sess tag : Byte) (payload : List Byte) (s : State) : Host.Outcome State Fault Refusal :=
  .next (s.goodFrame ownStartTimer { sess := sess, type := Request.startTimer.code, tag := tag, payload := payload })

/-- The command STOP_TIMER. -/
def execStopTimer (sess tag : Byte) (payload : List Byte) (s : State) : Host.Outcome State Fault Refusal :=
  .next (s.goodFrame ownStopTimer { sess := sess, type := Request.stopTimer.code, tag := tag, payload := payload })

/-- The command SET_TIMEBASE. -/
def execSetTimebase (sess tag : Byte) (payload : List Byte) (s : State) : Host.Outcome State Fault Refusal :=
  .next (s.goodFrame ownSetTimebase { sess := sess, type := Request.setTimebase.code, tag := tag, payload := payload })

/-- The command SET_ALERT. -/
def execSetAlert (sess tag : Byte) (payload : List Byte) (s : State) : Host.Outcome State Fault Refusal :=
  .next (s.goodFrame ownSetAlert { sess := sess, type := Request.setAlert.code, tag := tag, payload := payload })

/-- The command RESET. -/
def execReset (sess tag : Byte) (payload : List Byte) (s : State) : Host.Outcome State Fault Refusal :=
  .next (s.goodFrame ownReset { sess := sess, type := Request.reset.code, tag := tag, payload := payload })

end Sys2Proof.Machine
end

