-- ==== Sys2Proof/Machine/Queries.lean ====
section
/-! DEFINITION. The queries, which any session may send: QUERY_SOURCE, QUERY_LINES, QUERY_TIMER, READ_TIME and
QUERY_SESSION. -/

namespace Sys2Proof.Machine

/-- QUERY_SOURCE (R21). -/
def ownQuerySource : Owner := fun _ payload s =>
  match readSource payload with
  | none => .refuse .badField s
  | some x => .ok (sourceContents s x) s

/-- QUERY_LINES (R116). -/
def ownQueryLines : Owner := fun _ _ s => .ok (linesContents s) s

/-- QUERY_TIMER (R139). -/
def ownQueryTimer : Owner := fun _ payload s =>
  match readTimer payload with
  | none => .refuse .badField s
  | some k => .ok (timerContents s k) s

/-- READ_TIME (R125). -/
def ownReadTime : Owner := fun _ _ s => .ok (timeContents s) s

/-- QUERY_SESSION (R89). -/
def ownQuerySession : Owner := fun _ payload s =>
  match readSession payload with
  | none => .refuse .badField s
  | some d => .ok (sessionContents s d) s

/-- The command QUERY_SOURCE. -/
def execQuerySource (sess tag : Byte) (payload : List Byte) (s : State) : Host.Outcome State Fault Refusal :=
  .next (s.goodFrame ownQuerySource { sess := sess, type := Request.querySource.code, tag := tag, payload := payload })

/-- The command QUERY_LINES. -/
def execQueryLines (sess tag : Byte) (payload : List Byte) (s : State) : Host.Outcome State Fault Refusal :=
  .next (s.goodFrame ownQueryLines { sess := sess, type := Request.queryLines.code, tag := tag, payload := payload })

/-- The command QUERY_TIMER. -/
def execQueryTimer (sess tag : Byte) (payload : List Byte) (s : State) : Host.Outcome State Fault Refusal :=
  .next (s.goodFrame ownQueryTimer { sess := sess, type := Request.queryTimer.code, tag := tag, payload := payload })

/-- The command READ_TIME. -/
def execReadTime (sess tag : Byte) (payload : List Byte) (s : State) : Host.Outcome State Fault Refusal :=
  .next (s.goodFrame ownReadTime { sess := sess, type := Request.readTime.code, tag := tag, payload := payload })

/-- The command QUERY_SESSION. -/
def execQuerySession (sess tag : Byte) (payload : List Byte) (s : State) : Host.Outcome State Fault Refusal :=
  .next (s.goodFrame ownQuerySession { sess := sess, type := Request.querySession.code, tag := tag, payload := payload })

end Sys2Proof.Machine
end

