-- ==== Sys2Proof/Machine/LinkEvents.lean ====
section
/-! DEFINITION. The happenings of the link: UNKNOWN_TYPE, OVERRUN, FRAME_FAULT, GAP_EXCEEDED, CHARACTER_COMPLETED, PICK
and END_OF_FRAME. -/

namespace Sys2Proof.Machine

/-- The owner of each request type. -/
def Request.owner : Request → Owner
  | .configSource => ownConfigSource
  | .setAdmission => ownSetAdmission
  | .configLine => ownConfigLine
  | .configTimer => ownConfigTimer
  | .startTimer => ownStartTimer
  | .stopTimer => ownStopTimer
  | .setTimebase => ownSetTimebase
  | .setAlert => ownSetAlert
  | .reset => ownReset
  | .querySource => ownQuerySource
  | .queryLines => ownQueryLines
  | .queryTimer => ownQueryTimer
  | .readTime => ownReadTime
  | .querySession => ownQuerySession
  | .snapshot => ownSnapshot
  | .readCapture => ownReadCapture
  | .discardCapture => ownDiscardCapture
  | .openSession => ownOpen
  | .close => ownClose
  | .setSession => ownSetSession
  | .resume => ownResume
  | .accept => ownAccept
  | .returnOffer => ownReturn
  | .done => ownDone
  | .doneTop => ownDoneTop

/-- The owner of a TYPE code; a code that names no request fails step 2 before any owner is asked (R176). -/
def ownerOfCode (type : Byte) : Owner :=
  match Request.ofCode type with
  | some r => r.owner
  | none => fun _ _ s => .refuse .unknownType s

/-- A good frame of any TYPE (R159, R171: the receiver passes every TYPE on). -/
def State.anyGoodFrame (s : State) (f : ReqFrame) : State := s.goodFrame (ownerOfCode f.type) f

/-- UNKNOWN_TYPE (R176). -/
def execUnknownType (type sess tag : Byte) (payload : List Byte) (s : State) : Host.Outcome State Fault Refusal :=
  .next (s.anyGoodFrame { sess := sess, type := type, tag := tag, payload := payload })

/-- OVERRUN (R159): with a free slot there is no overrun, and nothing changes (log entry 6). -/
def execOverrun (sess tag : Byte) (s : State) : Host.Outcome State Fault Refusal :=
  if s.isRunning ∧ s.freeSlot = none then .next (s.hunt.takeOverrun sess tag) else .next s

/-- FRAME_FAULT (R157): every cause has the one effect. -/
def execFrameFault (cause : FaultCause) (s : State) : Host.Outcome State Fault Refusal :=
  match cause with
  | .lenAbove _ | .crcDisagrees | .characterError => if s.isRunning then .next s.takeFault else .next s

/-- GAP_EXCEEDED (R158): the gap timer runs from the end of a character inside a frame to the next start bit. -/
def execGapExceeded (s : State) : Host.Outcome State Fault Refusal :=
  match s.isRunning, s.receiver.gapTimer with
  | true, some t => .next (s.reach t).takeFault
  | _, _ => .next s

/-! ## Characters (R156) -/

/-- The receiver goes on inside a frame, and the gap timer starts at the end of this character (R156, R158). -/
def State.intoFrame (s : State) (f : Framing) : State :=
  s.setReceiver { s.receiver with framing := f, gapTimer := some (s.clock + Config.interByteGap) }

/-- A character with a good stop bit completes (R156, R157, R159). -/
def State.takeCharacter (s : State) (v : Byte) : State :=
  match s.receiver.framing with
  | .hunt => if v = Config.sync then s.intoFrame .headerLen else s
  | .headerLen => if v.toNat ≤ Config.maxRequestLen then s.intoFrame (.headerSess v) else s.takeFault
  | .headerSess len => s.intoFrame (.headerType len v)
  | .headerType len sess => s.intoFrame (.headerTag len sess v)
  | .headerTag len sess type =>
    if len = 0 then s.intoFrame (.checkLow len sess type v []) else s.intoFrame (.payload len sess type v [])
  | .payload len sess type tag taken =>
    let all := taken ++ [v]
    if all.length < len.toNat then s.intoFrame (.payload len sess type tag all)
    else s.intoFrame (.checkLow len sess type tag all)
  | .checkLow len sess type tag taken => s.intoFrame (.checkHigh len sess type tag taken v)
  | .checkHigh len sess type tag taken low =>
    if [low, v] = crcBytes (len :: sess :: type :: tag :: taken) then
      s.anyGoodFrame { sess := sess, type := type, tag := tag, payload := taken }
    else s.takeFault

/-- A start bit stops the gap timer (R158). -/
def State.takeStartBit (s : State) : State := s.setReceiver { s.receiver with gapTimer := none }

/-- CHARACTER_COMPLETED (R153, R156, R158): the start bit stops the gap timer; at the end of the stop bit the character is
taken, or, with a character error, discarded in HUNT and a frame fault in a frame. A completion with no start bit sent
before it stands for both moments (log entry 11). -/
def execCharacterCompleted (v : Byte) (moment : CharacterMoment) (s : State) : Host.Outcome State Fault Refusal :=
  if s.isRunning then
    match moment with
    | .startBit => .next s.takeStartBit
    | .completed true => .next (s.takeCharacter v)
    | .completed false => if s.receiver.framing = .hunt then .next s else .next s.takeFault
  else .next s

/-! ## The transmitter -/

/-- PICK (R163, R164): taken while LTX is idle; LTX is held high while the part is held in reset (R168). -/
def execPick (s : State) : Host.Outcome State Fault Refusal :=
  if s.isRunning ∧ s.transmitter.frame = none then .next s.pickFrame else .next s

/-- END_OF_FRAME (R166): with no frame in transmission none can end, and nothing changes (log entry 6). -/
def execEndOfFrame (order : EndOrder) (s : State) : Host.Outcome State Fault Refusal :=
  match s.isRunning, s.transmitter.frame with
  | true, some f => .next (s.frameEnded f.kind order)
  | _, _ => .next s

end Sys2Proof.Machine
end

