-- ==== Sys2Proof/Machine/Power.lean ====
section
/-! DEFINITION. The happenings of the supply and of RSTn: POWER_ON, POWER_ON_RESET_END, RSTN_ASSERT and RSTN_RELEASE
(R168, R185). -/

namespace Sys2Proof.Machine

/-- RSTn is low in this phase. -/
def Phase.rstnIsLow : Phase → Bool
  | .running => false
  | .powerOn _ low => low
  | .pinReset => true

/-- POWER_ON (R168): VDD reaches its range and the power-on reset begins; RSTn keeps its level. -/
def execPowerOn (s : State) : Host.Outcome State Fault Refusal :=
  .next (s.heldInReset (.powerOn s.clock s.phase.rstnIsLow))

/-- POWER_ON_RESET_END (R168): 1 ms after VDD is in range the power-on reset ends. With RSTn low at that moment the part
stays held, and the later RSTN_RELEASE ends the reset (log entry 12). -/
def execPowerOnResetEnd (br1 br0 : Bool) (s : State) : Host.Outcome State Fault Refusal :=
  match s.phase with
  | .powerOn since false => .next ((s.reach (since + Config.powerOnTime)).endReset .power br1 br0)
  | .powerOn since true => .next (s.reach (since + Config.powerOnTime))
  | .running => .next s
  | .pinReset => .next s

/-- RSTN_ASSERT (R168, R185): a frame on LTX is cut off, a pending RESET replaced, and the part held in reset. In the
power-on reset RSTn falling only keeps that reset from ending. -/
def execRstnAssert (s : State) : Host.Outcome State Fault Refusal :=
  match s.phase with
  | .running => .next (s.heldInReset .pinReset)
  | .powerOn since _ => .next (s.setPhase (.powerOn since true))
  | .pinReset => .next s

/-- RSTN_RELEASE (R168): the reset of a low RSTn ends with cause PIN. In the power-on reset the release ends that reset
with cause POWER once its 1 ms has passed, and is waited out before. -/
def execRstnRelease (br1 br0 : Bool) (s : State) : Host.Outcome State Fault Refusal :=
  match s.phase with
  | .pinReset => .next (s.endReset .pin br1 br0)
  | .powerOn since true =>
    if since + Config.powerOnTime ≤ s.clock then .next (s.endReset .power br1 br0)
    else .next (s.setPhase (.powerOn since false))
  | .powerOn _ false => .next s
  | .running => .next s

end Sys2Proof.Machine
end

