-- ==== Sys2Proof/Machine/Dispatch.lean ====
section
/-! DEFINITION. The effect of every command on everything but the queue: one arm per row of the table. -/

namespace Sys2Proof.Machine

def exec (i : Instr) (s : State) : Host.Outcome State Fault Refusal :=
  match i with
  | .configSource sess tag payload => Sys2Proof.Machine.execConfigSource sess tag payload s
  | .setAdmit sess tag payload => Sys2Proof.Machine.execSetAdmission sess tag payload s
  | .configLine sess tag payload => Sys2Proof.Machine.execConfigLine sess tag payload s
  | .configTimer sess tag payload => Sys2Proof.Machine.execConfigTimer sess tag payload s
  | .startTimer sess tag payload => Sys2Proof.Machine.execStartTimer sess tag payload s
  | .stopTimer sess tag payload => Sys2Proof.Machine.execStopTimer sess tag payload s
  | .setTimebase sess tag payload => Sys2Proof.Machine.execSetTimebase sess tag payload s
  | .setAlert sess tag payload => Sys2Proof.Machine.execSetAlert sess tag payload s
  | .reset sess tag payload => Sys2Proof.Machine.execReset sess tag payload s
  | .querySource sess tag payload => Sys2Proof.Machine.execQuerySource sess tag payload s
  | .queryLines sess tag payload => Sys2Proof.Machine.execQueryLines sess tag payload s
  | .queryTimer sess tag payload => Sys2Proof.Machine.execQueryTimer sess tag payload s
  | .readTime sess tag payload => Sys2Proof.Machine.execReadTime sess tag payload s
  | .querySession sess tag payload => Sys2Proof.Machine.execQuerySession sess tag payload s
  | .snapshot sess tag payload => Sys2Proof.Machine.execSnapshot sess tag payload s
  | .readCapture sess tag payload => Sys2Proof.Machine.execReadCapture sess tag payload s
  | .discardCapture sess tag payload => Sys2Proof.Machine.execDiscardCapture sess tag payload s
  | .openSession sess tag payload => Sys2Proof.Machine.execOpen sess tag payload s
  | .close sess tag payload => Sys2Proof.Machine.execClose sess tag payload s
  | .setSession sess tag payload => Sys2Proof.Machine.execSetSession sess tag payload s
  | .resume sess tag payload => Sys2Proof.Machine.execResume sess tag payload s
  | .accept sess tag payload => Sys2Proof.Machine.execAccept sess tag payload s
  | .returnOffer sess tag payload => Sys2Proof.Machine.execReturn sess tag payload s
  | .done sess tag payload => Sys2Proof.Machine.execDone sess tag payload s
  | .doneTop sess tag payload => Sys2Proof.Machine.execDoneTop sess tag payload s
  | .unknownType type sess tag payload => Sys2Proof.Machine.execUnknownType type sess tag payload s
  | .overrun sess tag => Sys2Proof.Machine.execOverrun sess tag s
  | .frameFault cause => Sys2Proof.Machine.execFrameFault cause s
  | .gapExceeded => Sys2Proof.Machine.execGapExceeded s
  | .pick => Sys2Proof.Machine.execPick s
  | .endOfFrame order => Sys2Proof.Machine.execEndOfFrame order s
  | .ackDeadlineExpiry sess dn => Sys2Proof.Machine.execAckDeadlineExpiry sess dn s
  | .holdExpiry source => Sys2Proof.Machine.execHoldExpiry source s
  | .renewalGapEnd => Sys2Proof.Machine.execRenewalGapEnd s
  | .tick => Sys2Proof.Machine.execTick s
  | .timerExpiry timer => Sys2Proof.Machine.execTimerExpiry timer s
  | .occurrence line level => Sys2Proof.Machine.execOccurrence line level s
  | .assertion line => Sys2Proof.Machine.execAssertion line s
  | .deassertion line => Sys2Proof.Machine.execDeassertion line s
  | .powerOn => Sys2Proof.Machine.execPowerOn s
  | .powerOnResetEnd br1 br0 => Sys2Proof.Machine.execPowerOnResetEnd br1 br0 s
  | .rstnAssert => Sys2Proof.Machine.execRstnAssert s
  | .rstnRelease br1 br0 => Sys2Proof.Machine.execRstnRelease br1 br0 s
  | .lineSample levels => Sys2Proof.Machine.execLineSample levels s
  | .characterCompleted value moment => Sys2Proof.Machine.execCharacterCompleted value moment s

end Sys2Proof.Machine
end

