-- ==== Sys2Proof/Safety.lean ====
section
/-! DEFINITION. The laws the manual states of the part's records, as predicates of a state: what a safe run keeps. Each
is decidable, so that a concrete state can be checked. After them, the terms in which the statements speak of requests,
replies, times and reports, written from the rules and not from the machine's own operations. -/

namespace Sys2Proof.Machine

/-! ## Source table -/

/-- The laws of one source record: holder (R3), count, mark and times (R3, R4), admission OFF (R9, R20), and the fresh
count of a level-type source that is out (R6). -/
abbrev Source.Lawful (r : Source) (levelType : Bool) : Prop :=
  (r.holder.isSome = true ↔ r.state = .offered ∨ r.state = .inService) ∧
  (r.state = .pending → 1 ≤ r.count) ∧
  (r.state = .idle → r.count = 0) ∧
  (r.firstTime.isSome = true ↔ 0 < r.count) ∧
  (r.lastTime.isSome = true ↔ 0 < r.count) ∧
  r.count ≤ 65535 ∧
  (r.saturated = true → 0 < r.count) ∧
  (levelType = true → r.count ≤ 1) ∧
  (levelType = true → r.state = .offered ∨ r.state = .inService → r.count = 0) ∧
  (r.admission = .off → r.count = 0 ∧ r.state ≠ .pending ∧ r.holdUntil = none)

/-- Every source record keeps its laws. -/
abbrev State.SourcesLawful (s : State) : Prop := ∀ x : SourceId, (s.source x).Lawful (s.isLevelType x)

/-- A PENDING level-type source always has its line asserted (R116). -/
abbrev State.PendingLevelAsserted (s : State) : Prop :=
  ∀ x : SourceId, s.isLevelType x = true → (s.source x).state = .pending → s.isAsserted x = true

/-! ## Lines and timers -/

/-- The run count never reaches filter + 1, and the filter is 0..7 (R105). -/
abbrev State.LinesLawful (s : State) : Prop :=
  ∀ n : LineId, (s.line n).runCount ≤ (s.line n).filter ∧ (s.line n).filter ≤ 7

/-- The laws of one timer record (R126, R127). -/
abbrev Timer.Lawful (t : Timer) : Prop :=
  1 ≤ t.period ∧ t.period ≤ 65535 ∧
  (∀ p ∈ t.pendingPeriod, 1 ≤ p ∧ p ≤ 65535) ∧
  t.remaining ≤ 65535 ∧
  (t.state = .running → 1 ≤ t.remaining) ∧
  (t.state = .waiting → t.mode = .gap ∧ t.remaining = 0)

/-- Every timer record keeps its laws. -/
abbrev State.TimersLawful (s : State) : Prop := ∀ k : TimerId, (s.timer k).Lawful

/-! ## Sessions -/

/-- The ranges of the six parameters (R75). -/
abbrev Params.Lawful (p : Params) : Prop :=
  1 ≤ p.window ∧ p.window ≤ 4 ∧ (p.mode = .nested → p.window = 1) ∧ 1 ≤ p.ackTimeout ∧ p.ackTimeout ≤ 255 ∧
  p.retryLimit ≤ 7 ∧ p.holdTime ≤ 255

/-- The ranges of an offer record (R47), and that its phase is one of the three (R48). -/
abbrev Offer.Lawful (o : Offer) : Prop :=
  1 ≤ o.count ∧ o.count ≤ 65535 ∧ o.firstTime.isSome = true ∧ o.lastTime.isSome = true ∧
  1 ≤ o.sendNumber ∧ o.sendNumber ≤ 8 ∧ (o.sendOwed = true → o.sendNumber ≤ 7 ∧ o.ackDeadline = none)

/-- The law a mode lays on the lists (R32, R34). -/
abbrev Session.ModeLaw (v : Session) (mode : SessionMode) : Prop :=
  (mode = .nested →
    (v.inService.map Entry.priority).Pairwise (· < ·) ∧ ∀ o ∈ v.offers, ∀ e ∈ v.inService, e.priority < o.priority) ∧
  (mode = .single → v.load ≤ 1)

/-- The laws of one session record: window and capacity (R31), the DNs (R41), the lists by state (R76), the mode
(R32, R34) and the ranges (R47, R75). -/
abbrev Session.Lawful (v : Session) : Prop :=
  (v.offers.map Offer.dn).Nodup ∧ (∀ o ∈ v.offers, o.Lawful) ∧
  (v.isActive = false → v.offers = []) ∧ (v.params = none → v.inService = []) ∧
  ∀ p ∈ v.params, p.Lawful ∧ v.offers.length ≤ p.window ∧ v.load ≤ 8 ∧ v.ModeLaw p.mode

/-- Every session record keeps its laws. -/
abbrev State.SessionsLawful (s : State) : Prop := ∀ d : Deliv, (s.session d).Lawful

/-- A source is OFFERED exactly when one offer names it and IN_SERVICE exactly when one in-service entry names it, at the
session that is its holder (R46), and offers and entries carry the priority of their source (R56, R96). -/
abbrev State.ListsMatchSources (s : State) : Prop :=
  ∀ d : Deliv,
    ((s.session d).offers.map Offer.source).Nodup ∧ ((s.session d).inService.map Entry.source).Nodup ∧
    (∀ o ∈ (s.session d).offers, o.priority = (s.source o.source).priority) ∧
    (∀ e ∈ (s.session d).inService, e.priority = (s.source e.source).priority) ∧
    ∀ x : SourceId,
      (x ∈ (s.session d).offers.map Offer.source ↔ (s.source x).state = .offered ∧ (s.source x).holder = some d) ∧
      (x ∈ (s.session d).inService.map Entry.source ↔
        (s.source x).state = .inService ∧ (s.source x).holder = some d)

/-! ## Alert -/

/-- The law of the pin (R100): with the alert enabled, ALERT is high exactly when the urgent condition holds, except in
a renewal gap; with it disabled ALERT is low; the gap runs only in RENEW mode with the alert enabled (R98). -/
abbrev State.AlertLaw (s : State) : Prop :=
  s.alert.pin = (s.alert.enabled && s.alert.gap.isNone && urgent s.sources) ∧
  (s.alert.gap.isSome = true → s.alert.enabled = true ∧ s.alert.mode = .renew)

/-! ## Link -/

/-- The slots the transmitter's replies occupy: those of the queue and that of the reply in transmission. -/
def Transmitter.replySlots (t : Transmitter) : List SlotId :=
  (match t.frame with
    | some { kind := .reply slot _, .. } => [slot]
    | _ => []) ++ t.replyQueue.map Reply.slot

/-- The receive slots: in use exactly when they stand in the order of arrival, and in REPLY exactly when the reply queue
or the frame in transmission holds their reply, each once (R160). -/
abbrev State.SlotsLawful (s : State) : Prop :=
  s.receiver.arrivals.Nodup ∧ s.transmitter.replySlots.Nodup ∧
  ∀ i : SlotId,
    (i ∈ s.receiver.arrivals ↔ s.receiver.slots[i] ≠ .free) ∧
    (i ∈ s.transmitter.replySlots ↔ s.receiver.slots[i] = .reply)

/-- A frame in progress has LEN at most 48 and no more payload bytes than LEN gives (R156, R157). -/
def Framing.lawful : Framing → Bool
  | .hunt => true
  | .headerLen => true
  | .headerSess len => len.toNat ≤ 48
  | .headerType len _ => len.toNat ≤ 48
  | .headerTag len _ _ => len.toNat ≤ 48
  | .payload len _ _ _ taken => decide (len.toNat ≤ 48) && decide (taken.length < len.toNat)
  | .checkLow len _ _ _ taken => decide (len.toNat ≤ 48) && decide (taken.length = len.toNat)
  | .checkHigh len _ _ _ taken _ => decide (len.toNat ≤ 48) && decide (taken.length = len.toNat)

/-- The gap timer runs only inside a frame, where a start bit stops it until the character completes, and the frame in
progress keeps its law (R156, R158). -/
abbrev Receiver.Lawful (v : Receiver) : Prop :=
  (v.gapTimer.isSome = true → v.framing ≠ .hunt) ∧ v.framing.lawful = true

/-- An offer is SENDING exactly while its EVT frame is in transmission (R48). -/
abbrev State.SendingIsOnLine (s : State) : Prop :=
  ∀ d : Deliv, ∀ o ∈ (s.session d).offers,
    (o.phase = .sending ↔ s.transmitter.frame.map TxFrame.kind = some (.evt d o.dn))

/-- A STALL notice is owed only after a stall has written the record it carries (R187). -/
abbrev State.StallNoticeLawful (s : State) : Prop :=
  ∀ d : Deliv, s.transmitter.stallOwed[d] = true →
    1 ≤ (s.session d).stall.count ∧ (s.session d).stall.exhaustingDN.isSome = true ∧
    (s.session d).stall.withdrawn ≠ []

/-- A held capture is one whose set of pages read is not complete (R148). -/
abbrev State.CaptureLawful (s : State) : Prop := ∀ c ∈ s.capture, ∃ p : Fin 4, c.pagesRead[p] = false

/-- While the part is held in reset LTX is idle, no slot is in use, no tick is marked, every session is CLOSED and every
source is at its reset value (R22, R90, R140, R168). -/
abbrev State.HeldLaw (s : State) : Prop :=
  s.phase ≠ .running →
    s.transmitter.frame = none ∧ s.receiver.arrivals = [] ∧ s.timeUnit.nextTick = none ∧
    (∀ d : Deliv, (s.session d).status = .closed) ∧ ∀ x : SourceId, s.source x = Source.reset

/-! ## Requests and replies in the statements -/

/-- The command that a good frame of request type `r` is. -/
def Request.command (r : Request) (sess tag : Byte) (payload : List Byte) : Instr :=
  match r with
  | .configSource => .configSource sess tag payload
  | .setAdmission => .setAdmit sess tag payload
  | .configLine => .configLine sess tag payload
  | .configTimer => .configTimer sess tag payload
  | .startTimer => .startTimer sess tag payload
  | .stopTimer => .stopTimer sess tag payload
  | .setTimebase => .setTimebase sess tag payload
  | .setAlert => .setAlert sess tag payload
  | .reset => .reset sess tag payload
  | .querySource => .querySource sess tag payload
  | .queryLines => .queryLines sess tag payload
  | .queryTimer => .queryTimer sess tag payload
  | .readTime => .readTime sess tag payload
  | .querySession => .querySession sess tag payload
  | .snapshot => .snapshot sess tag payload
  | .readCapture => .readCapture sess tag payload
  | .discardCapture => .discardCapture sess tag payload
  | .openSession => .openSession sess tag payload
  | .close => .close sess tag payload
  | .setSession => .setSession sess tag payload
  | .resume => .resume sess tag payload
  | .accept => .accept sess tag payload
  | .returnOffer => .returnOffer sess tag payload
  | .done => .done sess tag payload
  | .doneTop => .doneTop sess tag payload

/-- A good frame is executed at once, in `slot`: the part runs (R168), the dispatcher is NORMAL (R174) and `slot` is
the lowest FREE receive slot (R159, log entry 5). -/
abbrev State.canReceive (s : State) (slot : SlotId) : Prop :=
  s.phase = .running ∧ s.dispatcher.pendingReset = none ∧ s.receiver.slots[slot] = .free ∧
  ∀ j : SlotId, j < slot → s.receiver.slots[j] ≠ .free

/-- A request of this TYPE and TAG on session `σ` is executed in `slot` and not replayed (R174, R180). -/
abbrev State.canTake (s : State) (σ : SessId) (type tag : Byte) (slot : SlotId) : Prop :=
  s.canReceive slot ∧ ∀ c ∈ s.dispatcher.caches[σ], ¬(c.type = type ∧ c.tag = tag)

/-- `s` with a reply made for the request that `slot` received: the receiver is back in HUNT, the slot is in REPLY after
every slot already in use, and the reply is the newest of the reply queue (R156, R159, R160, R174). -/
def State.replied (s : State) (slot : SlotId) (sess type tag : Byte) (status : Status) (contents : List Byte)
    (startsReset : Bool := false) : State :=
  { s with
    receiver := { s.receiver with
      framing := .hunt, gapTimer := none, slots := s.receiver.slots.set slot .reply
      arrivals := s.receiver.arrivals ++ [slot] }
    transmitter := { s.transmitter with
      replyQueue := s.transmitter.replyQueue ++
        [{ slot := slot, sess := sess, tag := tag, type := type, status := status, contents := contents,
           startsReset := startsReset }] } }

/-- `s` with a request of session `σ` answered: the reply is made and replaces the session's cache (R174, R179). -/
def State.answered (s : State) (slot : SlotId) (σ : SessId) (type tag : Byte) (status : Status) (contents : List Byte)
    (startsReset : Bool := false) : State :=
  { s.replied slot (byteOf σ.val) type tag status contents startsReset with
    dispatcher := { s.dispatcher with
      caches := s.dispatcher.caches.set σ
        (some { type := type, tag := tag, status := status, contents := contents }) } }

/-- 0 = RISE, 1 = FALL, 2 = BOTH, 3 = HIGH, 4 = LOW (R114). -/
def Sense.code : Sense → Byte
  | .rise => 0#8
  | .fall => 1#8
  | .both => 2#8
  | .high => 3#8
  | .low => 4#8

/-- The six parameters as OPEN and SET_SESSION carry them (R77). -/
def Params.payload (p : Params) : List Byte :=
  [p.mode.code, byteOf p.window, byteOf p.threshold.val, byteOf p.ackTimeout, byteOf p.retryLimit, byteOf p.holdTime]

/-- A payload of its request's length with a field out of its stated range, which step 5 of R176 refuses: the ranges of
R10, R13, R21, R61, R77, R84, R89, R99, R114, R123, R135, R136, R137, R139, R147 and R182. -/
def Request.outOfRange (r : Request) (payload : List Byte) : Bool :=
  let byte := fun n => (payload.getD n 0).toNat
  match r with
  | .configSource =>
    31 < byte 0 || 15 < byte 1 || 4 < byte 2 || 4 < byte 3 || 1 < byte 4 || (byte 2 != 0 && byte 2 == byte 3)
  | .setAdmission => 31 < byte 0 || 2 < byte 1
  | .configLine => 23 < byte 0 || 4 < byte 1 || 7 < byte 2
  | .configTimer => 7 < byte 0 || 2 < byte 1 || (byte 2 == 0 && byte 3 == 0) || 23 < byte 4
  | .startTimer | .stopTimer | .queryTimer => 7 < byte 0
  | .setTimebase => 3 < byte 0
  | .setAlert => 1 < byte 0 || 1 < byte 1
  | .reset => 1 < byte 0
  | .querySource | .done => 31 < byte 0
  | .querySession => byte 0 == 0 || 4 < byte 0
  | .readCapture => 3 < byte 0
  | .openSession | .setSession =>
    2 < byte 0 || byte 1 == 0 || 4 < byte 1 || 15 < byte 2 || byte 3 == 0 || 7 < byte 4 ||
      (byte 0 == 0 && byte 1 != 1)
  | .queryLines | .readTime | .snapshot | .discardCapture | .close | .resume | .accept | .returnOffer
  | .doneTop => false

/-! ## Times, occurrences and reports in the statements -/

/-- A timer loaded and RUNNING (R128, R133, R135). -/
def Timer.restarted (t : Timer) : Timer :=
  { t with
    period := t.pendingPeriod.getD t.period, pendingPeriod := none, remaining := t.pendingPeriod.getD t.period
    state := .running }

/-- `s` after a counted occurrence of source `x` has restarted each RUNNING or WAITING GAP timer that watches it, and no
other timer (R133); a TIMER source is watched by none. -/
def State.restartGaps (s : State) (x : SourceId) : State :=
  s.setTimers (Vector.ofFn fun k =>
    if (s.timer k).mode = .gap ∧ (s.timer k).watched.val = x.val ∧ (s.timer k).state ≠ .stopped then
      (s.timer k).restarted
    else s.timer k)

/-- A record after an occurrence at time `t` on its edge-type source (R4, R5). -/
def Source.occurrenceTaken (r : Source) (t : Tick) : Source :=
  if r.admission = .off then r
  else
    { r with
      state := if r.state = .idle then .pending else r.state
      count := min 65535 (r.count + 1)
      saturated := r.saturated || decide (65535 ≤ r.count)
      firstTime := some (r.firstTime.getD t)
      lastTime := some t }

/-- A record after a report of its line at time `t` (R5, R6, R7, R109). -/
def Source.reportTaken (r : Source) (report : Report) (t : Tick) : Source :=
  match report with
  | .nothing => r
  | .occurrence => r.occurrenceTaken t
  | .assertion =>
    if r.state = .idle ∧ r.admission ≠ .off then
      { r with state := .pending, count := 1, firstTime := some t, lastTime := some t }
    else r
  | .deassertion =>
    if r.state = .pending then
      { r with state := .idle, count := 0, saturated := false, firstTime := none, lastTime := none }
    else r

/-- The report is a counted occurrence on this record (R8). -/
def Source.counts (r : Source) (report : Report) : Bool :=
  match report with
  | .nothing => false
  | .deassertion => false
  | .occurrence => r.admission != .off
  | .assertion => r.admission != .off && r.state == .idle

/-- A timer record after a tick, and whether it expires at it (R127, R129, R131). -/
def Timer.stepped (t : Timer) : Timer × Bool :=
  if t.state ≠ .running then (t, false)
  else if 1 < t.remaining then ({ t with remaining := t.remaining - 1 }, false)
  else
    match t.mode with
    | .oneShot => ({ t with state := .stopped, remaining := 0 }, true)
    | .periodic => (t.restarted, true)
    | .gap => ({ t with state := .waiting, remaining := 0 }, true)

/-! ## Happenings taken one by one in the statements -/

/-- `s` after the expiry of timer `e.1` at the tick of value `e.2` has been taken and the alert output has judged it
(R97, R130). -/
def State.expiryTaken (s : State) (e : TimerId × Tick) : State :=
  (s.setSource (timerSource e.1) ((s.source (timerSource e.1)).occurrenceTaken e.2)).judged s

/-- `s` after these expiries have been taken one after the other (R132). -/
def State.expiriesTaken (s : State) (es : List (TimerId × Tick)) : State := es.foldl State.expiryTaken s

/-- `s` after the expiries that wait from the latest tick have been taken, oldest first (R132, R146; the waiting list is
the model's, log entry 4). -/
def State.waitingTaken (s : State) : State := (s.setDueExpiries []).expiriesTaken s.timeUnit.dueExpiries

/-- `s` after the tick due at `due` has been marked, with no expiry taken yet: the counter advances by 1, wrapping
(R121), the next tick stands one tick length on (R120), and every RUNNING timer is stepped and takes the state of its mode
at its expiry (R129, R131). The clock reaches the tick (log entry 1). -/
def State.tickMarked (s : State) (due : Instant) : State :=
  (s.setClock (max s.clock due)).setTimeUnit { s.timeUnit with
    counter := s.timeUnit.counter + 1
    nextTick := some (due + s.timeUnit.timeBase.micros)
    timers := Vector.ofFn fun k => (s.timer k).stepped.1 }

/-- The timers that the next tick expires, in timer order (R129). -/
def State.nextToExpire (s : State) : List TimerId := (List.finRange 8).filter fun k => (s.timer k).stepped.2

/-- `s` after the filtered level of line `n` has become `level`: its source takes the report of its sense with the present
time (R5, R6, R7, R109, R110), a counted occurrence restarts the GAP timers that watch the line (R8, R133), and the alert
output judges it (R97). -/
def State.levelTaken (s : State) (n : LineId) (level : Bool) : State :=
  let report := (s.line n).sense.report level
  let changed := (s.setLine n { s.line n with raw := level, filtered := level, runCount := 0 }).setSource
    (lineSource n) ((s.source (lineSource n)).reportTaken report s.now)
  (if (s.source (lineSource n)).counts report then changed.restartGaps (lineSource n) else changed).judged s

end Sys2Proof.Machine
end

