-- ==== Sys2Proof/WellFormed.lean ====
section
/-! DEFINITION. Which commands the outside world can give: the checks no Lean type of an operand already makes. -/

namespace Sys2Proof

/-- The request type codes of R171. -/
def requestCodes : List Byte :=
  [0x01#8, 0x02#8, 0x03#8, 0x04#8, 0x05#8, 0x06#8, 0x07#8, 0x08#8, 0x09#8,
   0x10#8, 0x11#8, 0x12#8, 0x13#8, 0x14#8, 0x18#8, 0x19#8, 0x1A#8] ++
  [0x20#8, 0x21#8, 0x22#8, 0x23#8, 0x24#8, 0x25#8, 0x26#8, 0x27#8]

/-- A frame from the host carries at most 48 payload bytes (R154). -/
def payloadFits (payload : List Byte) : Bool := payload.length ≤ Config.maxRequestLen

/-- A frame fault's cause is the one its name says: LEN above 48 is above 48 (R157). -/
def FaultCause.wellFormed : FaultCause → Bool
  | .lenAbove len => Config.maxRequestLen < len.toNat
  | .crcDisagrees => true
  | .characterError => true

/-- The command can happen at the part's pins. -/
def Instr.wellFormed : Instr → Bool
  | .configSource _ _ p => payloadFits p
  | .setAdmit _ _ p => payloadFits p
  | .configLine _ _ p => payloadFits p
  | .configTimer _ _ p => payloadFits p
  | .startTimer _ _ p => payloadFits p
  | .stopTimer _ _ p => payloadFits p
  | .setTimebase _ _ p => payloadFits p
  | .setAlert _ _ p => payloadFits p
  | .reset _ _ p => payloadFits p
  | .querySource _ _ p => payloadFits p
  | .queryLines _ _ p => payloadFits p
  | .queryTimer _ _ p => payloadFits p
  | .readTime _ _ p => payloadFits p
  | .querySession _ _ p => payloadFits p
  | .snapshot _ _ p => payloadFits p
  | .readCapture _ _ p => payloadFits p
  | .discardCapture _ _ p => payloadFits p
  | .openSession _ _ p => payloadFits p
  | .close _ _ p => payloadFits p
  | .setSession _ _ p => payloadFits p
  | .resume _ _ p => payloadFits p
  | .accept _ _ p => payloadFits p
  | .returnOffer _ _ p => payloadFits p
  | .done _ _ p => payloadFits p
  | .doneTop _ _ p => payloadFits p
  | .unknownType type _ _ p => payloadFits p && !requestCodes.contains type
  | .overrun _ _ => true
  | .frameFault cause => cause.wellFormed
  | .gapExceeded => true
  | .pick => true
  | .endOfFrame _ => true
  | .ackDeadlineExpiry _ _ => true
  | .holdExpiry _ => true
  | .renewalGapEnd => true
  | .tick => true
  | .timerExpiry _ => true
  | .occurrence _ _ => true
  | .assertion _ => true
  | .deassertion _ => true
  | .powerOn => true
  | .powerOnResetEnd _ _ => true
  | .rstnAssert => true
  | .rstnRelease _ _ => true
  | .lineSample _ => true
  | .characterCompleted _ _ => true

end Sys2Proof
end

