-- ==== Sys2Proof/Certificates/Slice0/Obligations.lean ====
section
/-! DEFINITION. The statements for the provers. In a request statement the operands are the bytes of a good frame, `slot`
is the receive slot it claims, and the whole next state is given: what the equation does not name is unchanged. -/

open Sys2Proof Sys2Proof.Machine

/-! ## The machine -/

/-- A step runs the command at the front of the queue on the state with the queue's rest; on an empty queue the part
idles (the model's choice, log entry 8). -/
def Obligations.StepRunsFrontCommand : Prop :=
  (∀ (c : Instr) (rest : List Instr) (s : State), step (s.setPending (c :: rest)) = exec c (s.setPending rest)) ∧
  ∀ s : State, step (s.setPending []) = .next (s.setPending [])

/-- Every command completes in every state and leaves the queue alone: no command stops the part. That no command faults
or is refused is the model's reading (log entry 16), and the queue is the model's own (log entry 15). -/
def Obligations.EveryCommandCompletes : Prop :=
  ∀ (c : Instr) (s : State), ∃ t, exec c s = .next t ∧ t.pending = s.pending

/-- The reset values of R1, R75, R98, R105, R120, R121, R126, R142, R163, R168, R174 and R178, and the laws that the
statements below say every step keeps. The raw level, the clock and the strap levels at reset are the model's choices
(log entries 1 and 2) and are left out. -/
def Obligations.ResetLeaves : Prop :=
  (∀ x : SourceId, State.reset.source x =
    { admission := .off, priority := 0, primary := none, fallback := none, completion := .manual, state := .idle
      holder := none, count := 0, saturated := false, firstTime := none, lastTime := none, holdUntil := none }) ∧
  (∀ n : LineId, (State.reset.line n).sense = .rise ∧ (State.reset.line n).filter = 0 ∧
    (State.reset.line n).runCount = 0 ∧ (State.reset.line n).filtered = (State.reset.line n).raw) ∧
  (∀ k : TimerId, State.reset.timer k =
    { mode := .oneShot, period := 1, pendingPeriod := none, remaining := 0, state := .stopped, watched := 0 }) ∧
  State.reset.timeUnit.timeBase = .us10 ∧ State.reset.now = 0 ∧
  State.reset.timeUnit.nextTick = some (State.reset.clock + 10) ∧
  (∀ d : Deliv, (State.reset.session d).status = .closed ∧ (State.reset.session d).nextDN = 0 ∧
    (State.reset.session d).offers = [] ∧ (State.reset.session d).inService = [] ∧
    (∀ p : Priority, (State.reset.session d).rotation[p] = none) ∧
    (State.reset.session d).stall = { exhaustingDN := none, withdrawn := [], count := 0 }) ∧
  State.reset.alert = { enabled := false, mode := .level, pin := false, gap := none } ∧
  State.reset.capture = none ∧
  State.reset.receiver.framing = .hunt ∧ State.reset.receiver.gapTimer = none ∧
  (∀ i : SlotId, State.reset.receiver.slots[i] = .free) ∧ State.reset.receiver.overruns = 0 ∧
  State.reset.receiver.lastDiscarded = none ∧ State.reset.receiver.frameFaults = 0 ∧
  State.reset.dispatcher.pendingReset = none ∧ (∀ σ : SessId, State.reset.dispatcher.caches[σ] = none) ∧
  State.reset.transmitter.replyQueue = [] ∧ State.reset.transmitter.hello = some .power ∧
  State.reset.transmitter.linkOwed = false ∧ (∀ d : Deliv, State.reset.transmitter.stallOwed[d] = false) ∧
  State.reset.transmitter.rrPointer = none ∧ State.reset.transmitter.frame = none ∧ State.reset.phase = .running ∧
  State.reset.SourcesLawful ∧ State.reset.SessionsLawful ∧ State.reset.ListsMatchSources ∧ State.reset.AlertLaw ∧
  State.reset.PendingLevelAsserted ∧ State.reset.LinesLawful ∧ State.reset.TimersLawful ∧ State.reset.SlotsLawful ∧
  State.reset.receiver.Lawful ∧ State.reset.SendingIsOnLine ∧ State.reset.HeldLaw ∧ State.reset.CaptureLawful ∧
  State.reset.StallNoticeLawful

/-! ## Frames and requests -/

/-- The codes, payload lengths and sessions of the request types (R171, R175), and the layout of a frame in each direction
with its check (R154, R155, R170): SYNC, the header, the payload, and the CRC over LEN to the last payload byte, low byte
first; over the bytes 31h to 39h the CRC is 29B1h. The values of the statuses (R177), of the causes (R186) and of every
coded field (R10, R13, R77, R99, R114, R120, R136, R137, R182), with the length of a tick by time base (R120), and the
byte order of numbers (R154). -/
def Obligations.FrameAndRequestTables : Prop :=
  ([Request.configSource, .setAdmission, .configLine, .configTimer, .startTimer, .stopTimer, .setTimebase, .setAlert,
    .reset, .querySource, .queryLines, .queryTimer, .readTime, .querySession, .snapshot, .readCapture, .discardCapture,
    .openSession, .close, .setSession, .resume, .accept, .returnOffer, .done, .doneTop].map
      (fun r => (r.code.toNat, r.payloadLen, r.sessions)) =
  [(0x01, 5, SessionSet.management), (0x02, 2, .management), (0x03, 3, .management), (0x04, 5, .management),
    (0x05, 1, .management), (0x06, 1, .management), (0x07, 1, .management), (0x08, 2, .management),
    (0x09, 1, .management), (0x10, 1, .anySession), (0x11, 0, .anySession), (0x12, 1, .anySession),
    (0x13, 0, .anySession), (0x14, 1, .anySession), (0x18, 0, .anySession), (0x19, 1, .anySession),
    (0x1A, 0, .anySession), (0x20, 6, .delivery), (0x21, 0, .delivery), (0x22, 6, .delivery), (0x23, 0, .delivery),
    (0x24, 1, .delivery), (0x25, 1, .delivery), (0x26, 1, .delivery), (0x27, 0, .delivery)]) ∧
  (∀ b : Byte, (Request.ofCode b).isSome = true ↔ b ∈ requestCodes) ∧
  (∀ (sess type tag credit : Byte) (payload : List Byte), ∃ low high,
    partFrame sess type tag credit payload =
      [0xB6#8, byteOf payload.length, sess, type, tag, credit] ++ payload ++ [low, high] ∧
    high ++ low = crc16 ([byteOf payload.length, sess, type, tag, credit] ++ payload)) ∧
  (∀ f : ReqFrame, ∃ low high,
    hostFrame f = [0xB6#8, byteOf f.payload.length, f.sess, f.type, f.tag] ++ f.payload ++ [low, high] ∧
    high ++ low = crc16 ([byteOf f.payload.length, f.sess, f.type, f.tag] ++ f.payload)) ∧
  crc16 [0x31#8, 0x32#8, 0x33#8, 0x34#8, 0x35#8, 0x36#8, 0x37#8, 0x38#8, 0x39#8] = 0x29B1#16 ∧
  [Status.ok, .held, .badSession, .unknownType, .wrongSession, .badLength, .badField, .notOpen, .alreadyOpen,
    .notStalled, .busySource, .busySession, .busyTimer, .notInService, .stale, .captureEmpty, .captureBusy].map
      Status.code =
    [0#8, 1#8, 2#8, 3#8, 4#8, 5#8, 6#8, 7#8, 8#8, 9#8, 10#8, 11#8, 12#8, 13#8, 14#8, 15#8, 16#8] ∧
  [Cause.power, .pin, .full, .delivery].map Cause.code = [0#8, 1#8, 2#8, 3#8] ∧
  [Scope.full, .delivery].map Scope.code = [0#8, 1#8] ∧
  [SourceState.idle, .pending, .offered, .inService].map SourceState.code = [0#8, 1#8, 2#8, 3#8] ∧
  [Admission.off, .hold, .on].map Admission.code = [0#8, 1#8, 2#8] ∧
  [Completion.manual, .auto].map Completion.code = [0#8, 1#8] ∧
  [Sense.rise, .fall, .both, .high, .low].map Sense.code = [0#8, 1#8, 2#8, 3#8, 4#8] ∧
  [TimeBase.us1, .us10, .us100, .ms1].map (fun b => (b.code, b.micros)) =
    [(0#8, 1), (1#8, 10), (2#8, 100), (3#8, 1000)] ∧
  [TimerMode.oneShot, .periodic, .gap].map TimerMode.code = [0#8, 1#8, 2#8] ∧
  [TimerState.stopped, .running, .waiting].map TimerState.code = [0#8, 1#8, 2#8] ∧
  [AlertMode.level, .renew].map AlertMode.code = [0#8, 1#8] ∧
  [SessionMode.nested, .flat, .single].map SessionMode.code = [0#8, 1#8, 2#8] ∧
  [none, some 0, some 1, some 2, some 3].map delivByte = [0#8, 1#8, 2#8, 3#8, 4#8] ∧
  [false, true].map flagByte = [0#8, 1#8] ∧
  (∀ n < 256, (byteOf n).toNat = n) ∧
  (∀ n < 65536, ∃ low high, word16 n = [low, high] ∧ low.toNat + 256 * high.toNat = n) ∧
  ∀ t : Tick, ∃ a b c d : Byte, word32 t = [a, b, c, d] ∧ d ++ (c ++ (b ++ a)) = t

/-- Steps 1 to 4 of R176 for the 25 request types: BAD_SESSION touches no cache (R179); WRONG_SESSION goes before
BAD_LENGTH. -/
def Obligations.HeaderChecks : Prop :=
  ∀ (r : Request) (tag : Byte) (payload : List Byte) (slot : SlotId) (s : State),
    (∀ sess : Byte, s.canReceive slot → 5 ≤ sess.toNat →
      exec (r.command sess tag payload) s = .next (s.replied slot sess r.code tag .badSession [])) ∧
    ∀ σ : SessId, s.canTake σ r.code tag slot →
      ((r.sessions = .management ∧ σ ≠ 0) ∨ (r.sessions = .delivery ∧ σ = 0) →
        exec (r.command (byteOf σ.val) tag payload) s = .next (s.answered slot σ r.code tag .wrongSession [])) ∧
      (r.sessions = .anySession ∨ (r.sessions = .management ↔ σ = 0) → payload.length ≠ r.payloadLen →
        exec (r.command (byteOf σ.val) tag payload) s = .next (s.answered slot σ r.code tag .badLength []))

/-- UNKNOWN_TYPE: a TYPE that names no request is refused with UNKNOWN_TYPE on a session 0..4 and with BAD_SESSION on any
other SESS (R176). -/
def Obligations.UnknownTypeRefused : Prop :=
  ∀ (type tag : Byte) (payload : List Byte) (slot : SlotId) (s : State), type ∉ requestCodes →
    (∀ σ : SessId, s.canTake σ type tag slot →
      exec (.unknownType type (byteOf σ.val) tag payload) s = .next (s.answered slot σ type tag .unknownType [])) ∧
    ∀ sess : Byte, s.canReceive slot → 5 ≤ sess.toNat →
      exec (.unknownType type sess tag payload) s = .next (s.replied slot sess type tag .badSession [])

/-- Step 5 of R176 for every request: a field out of its range is refused with BAD_FIELD, and with every field in its
range the answer is another one; the check never depends on the state. -/
def Obligations.FieldChecks : Prop :=
  ∀ (r : Request) (σ : SessId) (tag : Byte) (payload : List Byte) (slot : SlotId) (s : State),
    s.canTake σ r.code tag slot → r.allowedOn σ = true → payload.length = r.payloadLen →
    (r.outOfRange payload = true →
      exec (r.command (byteOf σ.val) tag payload) s = .next (s.answered slot σ r.code tag .badField [])) ∧
    (r.outOfRange payload = false →
      ∃ (t : State) (status : Status) (contents : List Byte) (starts : Bool), status ≠ .badField ∧
        exec (r.command (byteOf σ.val) tag payload) s =
          .next (t.answered slot σ r.code tag status contents starts))

/-- Every request executed on a session 0..4 makes exactly one reply, placed at the newest end of the queue, and
replaces the cache; refused, it carries no contents and changes nothing else; HELD changes nothing else either
(R174, R177, R179). -/
def Obligations.RefusedChangesNothing : Prop :=
  ∀ (r : Request) (σ : SessId) (tag : Byte) (payload : List Byte) (slot : SlotId) (s : State),
    s.canTake σ r.code tag slot →
    ∃ (t : State) (status : Status) (contents : List Byte) (starts : Bool),
      exec (r.command (byteOf σ.val) tag payload) s = .next (t.answered slot σ r.code tag status contents starts) ∧
      t.transmitter.replyQueue = s.transmitter.replyQueue ∧ t.receiver = s.receiver ∧
      t.dispatcher.caches = s.dispatcher.caches ∧
      (status ≠ .ok → t = s ∧ starts = false ∧ (status ≠ .held → contents = []))

/-- A request equal in TYPE and TAG to the one its session's cache holds is replayed: the cached reply is queued for the
request's slot and nothing else changes, whatever the payload (R180). A frame whose TYPE names no request is replayed in
the same way. -/
def Obligations.ReplayAnswersFromCache : Prop :=
  (∀ (r : Request) (σ : SessId) (tag : Byte) (payload : List Byte) (slot : SlotId) (s : State) (c : CacheEntry),
    s.canReceive slot → s.dispatcher.caches[σ] = some c → c.type = r.code → c.tag = tag →
    exec (r.command (byteOf σ.val) tag payload) s =
      .next (s.replied slot (byteOf σ.val) r.code tag c.status c.contents)) ∧
  ∀ (type : Byte) (σ : SessId) (tag : Byte) (payload : List Byte) (slot : SlotId) (s : State) (c : CacheEntry),
    s.canReceive slot → s.dispatcher.caches[σ] = some c → c.type = type → c.tag = tag →
    exec (.unknownType type (byteOf σ.val) tag payload) s =
      .next (s.replied slot (byteOf σ.val) type tag c.status c.contents)

/-- While a RESET is pending a good frame of any TYPE, a request's or an unknown one, claims its slot and waits there in
REQUEST, in order of arrival (R159, R174, R183). That the slot is the lowest FREE one is the model's choice (log entry
5). -/
def Obligations.PendingResetHoldsRequests : Prop :=
  ∀ (sess tag : Byte) (payload : List Byte) (slot : SlotId) (scope : Scope) (s : State),
    s.phase = .running → s.dispatcher.pendingReset = some scope → s.receiver.slots[slot] = .free →
    (∀ j : SlotId, j < slot → s.receiver.slots[j] ≠ .free) →
    let waits := fun type : Byte => s.setReceiver { s.receiver with
      framing := .hunt, gapTimer := none
      slots := s.receiver.slots.set slot (.request { sess := sess, type := type, tag := tag, payload := payload })
      arrivals := s.receiver.arrivals ++ [slot] }
    (∀ r : Request, exec (r.command sess tag payload) s = .next (waits r.code)) ∧
    ∀ type : Byte, exec (.unknownType type sess tag payload) s = .next (waits type)

/-- OVERRUN: with no free slot a good frame of any type is discarded, the overrun count rises, saturating at 255, the
frame's SESS and TAG are recorded and LINK becomes owed (R159, R162). -/
def Obligations.OverrunDiscards : Prop :=
  ∀ (sess tag : Byte) (s : State), s.phase = .running → (∀ i : SlotId, s.receiver.slots[i] ≠ .free) →
    let t := (s.setReceiver { s.receiver with
        framing := .hunt, gapTimer := none, overruns := min 255 (s.receiver.overruns + 1)
        lastDiscarded := some (sess, tag) }).setTransmitter { s.transmitter with linkOwed := true }
    exec (.overrun sess tag) s = .next t ∧
    (∀ (r : Request) (payload : List Byte), exec (r.command sess tag payload) s = .next t) ∧
    ∀ (type : Byte) (payload : List Byte), exec (.unknownType type sess tag payload) s = .next t

/-- While the part is held in reset LRX is not read: no request, overrun, fault or character changes anything (R168). -/
def Obligations.ResetStopsReceiver : Prop :=
  ∀ s : State, s.phase ≠ .running →
    (∀ (r : Request) (sess tag : Byte) (payload : List Byte), exec (r.command sess tag payload) s = .next s) ∧
    (∀ (type sess tag : Byte) (payload : List Byte), exec (.unknownType type sess tag payload) s = .next s) ∧
    (∀ sess tag : Byte, exec (.overrun sess tag) s = .next s) ∧
    (∀ cause : FaultCause, exec (.frameFault cause) s = .next s) ∧
    (∀ (value : Byte) (moment : CharacterMoment), exec (.characterCompleted value moment) s = .next s)

/-! ## State checks -/

/-- Step 6 of R176 by the state of the delivery session: NOT_OPEN on a CLOSED one (R57, R60, R61, R62, R80, R84, R87),
ALREADY_OPEN and NOT_STALLED (R77, R87). -/
def Obligations.SessionStateRefusals : Prop :=
  ∀ (d : Deliv) (tag : Byte) (payload : List Byte) (slot : SlotId) (s : State),
    (∀ r : Request, s.canTake (sessionNumber d) r.code tag slot → payload.length = r.payloadLen →
      r.outOfRange payload = false → r.sessions = .delivery → r ≠ .openSession → (s.session d).status = .closed →
      exec (r.command (byteOf (sessionNumber d).val) tag payload) s =
        .next (s.answered slot (sessionNumber d) r.code tag .notOpen [])) ∧
    (s.canTake (sessionNumber d) 0x20#8 tag slot → payload.length = 6 →
      Request.openSession.outOfRange payload = false → (s.session d).status ≠ .closed →
      exec (.openSession (byteOf (sessionNumber d).val) tag payload) s =
        .next (s.answered slot (sessionNumber d) 0x20#8 tag .alreadyOpen [])) ∧
    ∀ p : Params, s.canTake (sessionNumber d) 0x23#8 tag slot → (s.session d).status = .active p →
      exec (.resume (byteOf (sessionNumber d).val) tag []) s =
        .next (s.answered slot (sessionNumber d) 0x23#8 tag .notStalled [])

/-- BUSY_SOURCE, BUSY_TIMER and BUSY_SESSION: CONFIG_SOURCE of a source that is out (R13), CONFIG_LINE of a line whose
source is not IDLE (R114), CONFIG_TIMER with another mode or watched source on a timer that is not STOPPED (R137),
SET_TIMEBASE with a timer not STOPPED (R123), SET_SESSION with another mode or window on a session that holds an entry
(R84). -/
def Obligations.BusyRefusals : Prop :=
  ∀ (tag : Byte) (slot : SlotId) (s : State),
    (∀ (x : SourceId) (p : Priority) (primary fallback : Option Deliv) (c : Completion), s.canTake 0 0x01#8 tag slot →
      primary = none ∨ primary ≠ fallback → (s.source x).state = .offered ∨ (s.source x).state = .inService →
      exec (.configSource 0#8 tag
          [byteOf x.val, byteOf p.val, delivByte primary, delivByte fallback, c.code]) s =
        .next (s.answered slot 0 0x01#8 tag .busySource [])) ∧
    (∀ (n : LineId) (e : Sense) (f : Fin 8), s.canTake 0 0x03#8 tag slot →
      (s.source (lineSource n)).state ≠ .idle →
      exec (.configLine 0#8 tag [byteOf n.val, e.code, byteOf f.val]) s =
        .next (s.answered slot 0 0x03#8 tag .busySource [])) ∧
    (∀ (k : TimerId) (m : TimerMode) (period : Nat) (w : LineId), s.canTake 0 0x04#8 tag slot →
      1 ≤ period → period ≤ 65535 → (s.timer k).state ≠ .stopped → (s.timer k).mode ≠ m ∨ (s.timer k).watched ≠ w →
      exec (.configTimer 0#8 tag ([byteOf k.val, m.code] ++ word16 period ++ [byteOf w.val])) s =
        .next (s.answered slot 0 0x04#8 tag .busyTimer [])) ∧
    (∀ (b : TimeBase) (k : TimerId), s.canTake 0 0x07#8 tag slot → (s.timer k).state ≠ .stopped →
      exec (.setTimebase 0#8 tag [b.code]) s = .next (s.answered slot 0 0x07#8 tag .busyTimer [])) ∧
    ∀ (d : Deliv) (p q : Params), s.canTake (sessionNumber d) 0x22#8 tag slot → p.Lawful →
      (s.session d).status = .active q ∨ (s.session d).status = .stalled q → p.mode ≠ q.mode ∨ p.window ≠ q.window →
      (s.session d).offers ≠ [] ∨ (s.session d).inService ≠ [] →
      exec (.setSession (byteOf (sessionNumber d).val) tag p.payload) s =
        .next (s.answered slot (sessionNumber d) 0x22#8 tag .busySession [])

/-- STALE: ACCEPT and RETURN on a STALLED session, and on an ACTIVE one that holds no offer of that DN (R55, R59, R60).
NOT_IN_SERVICE: DONE of a source not in service there, DONE_TOP on an empty list (R61, R62). -/
def Obligations.StaleAndNotInService : Prop :=
  ∀ (d : Deliv) (tag dn : Byte) (slot : SlotId) (s : State) (p : Params),
    ((s.session d).status = .stalled p ∨
        ((s.session d).status = .active p ∧ ∀ o ∈ (s.session d).offers, o.dn ≠ dn) →
      (s.canTake (sessionNumber d) 0x24#8 tag slot →
        exec (.accept (byteOf (sessionNumber d).val) tag [dn]) s =
          .next (s.answered slot (sessionNumber d) 0x24#8 tag .stale [])) ∧
      (s.canTake (sessionNumber d) 0x25#8 tag slot →
        exec (.returnOffer (byteOf (sessionNumber d).val) tag [dn]) s =
          .next (s.answered slot (sessionNumber d) 0x25#8 tag .stale []))) ∧
    ((s.session d).status = .active p ∨ (s.session d).status = .stalled p →
      (∀ x : SourceId, s.canTake (sessionNumber d) 0x26#8 tag slot →
        (s.source x).state ≠ .inService ∨ (s.source x).holder ≠ some d →
        exec (.done (byteOf (sessionNumber d).val) tag [byteOf x.val]) s =
          .next (s.answered slot (sessionNumber d) 0x26#8 tag .notInService [])) ∧
      (s.canTake (sessionNumber d) 0x27#8 tag slot → (s.session d).inService = [] →
        exec (.doneTop (byteOf (sessionNumber d).val) tag []) s =
          .next (s.answered slot (sessionNumber d) 0x27#8 tag .notInService [])))

/-! ## Requests taken: the management session -/

/-- CONFIG_SOURCE replaces the four fields of an IDLE or PENDING source and keeps the rest of its record (R13); the urgent
condition is judged once (R97). -/
def Obligations.ConfigSourceTakes : Prop :=
  ∀ (x : SourceId) (p : Priority) (primary fallback : Option Deliv) (c : Completion) (tag : Byte) (slot : SlotId)
    (s : State), s.canTake 0 0x01#8 tag slot → primary = none ∨ primary ≠ fallback →
    (s.source x).state = .idle ∨ (s.source x).state = .pending →
    exec (.configSource 0#8 tag [byteOf x.val, byteOf p.val, delivByte primary, delivByte fallback, c.code]) s =
      .next (((s.setSource x { s.source x with
          priority := p, primary := primary, fallback := fallback, completion := c }).judged s).answered
        slot 0 0x01#8 tag .ok [byteOf x.val])

/-- SET_ADMIT by the old and new value: to OFF the count is emptied, the hold ends and a PENDING source goes IDLE (R11);
from OFF an IDLE source with an asserted level-type line takes an occurrence at once, which restarts the GAP timers that
watch it, and any other source takes none (R8, R12); otherwise the field alone changes (R10, R12). The reply carries the
old admit and the new state (R10). -/
def Obligations.SetAdmitTakes : Prop :=
  ∀ (x : SourceId) (new : Admission) (tag : Byte) (slot : SlotId) (s : State), s.canTake 0 0x02#8 tag slot →
    let r := s.source x
    let leaves := fun (state : SourceState) (t : State) =>
      exec (.setAdmit 0#8 tag [byteOf x.val, new.code]) s =
        .next ((t.judged s).answered slot 0 0x02#8 tag .ok [byteOf x.val, r.admission.code, state.code])
    (r.admission = .off → new = .off → leaves r.state s) ∧
    (r.admission ≠ .off → new = .off →
      leaves (if r.state = .pending then .idle else r.state)
        (s.setSource x { r with
          admission := .off, state := if r.state = .pending then .idle else r.state, count := 0, saturated := false
          firstTime := none, lastTime := none, holdUntil := none })) ∧
    (r.admission ≠ .off → new ≠ .off → leaves r.state (s.setSource x { r with admission := new })) ∧
    (r.admission = .off → new ≠ .off → r.state ≠ .idle ∨ s.isAsserted x = false →
      leaves r.state (s.setSource x { r with admission := new })) ∧
    (r.admission = .off → new ≠ .off → r.state = .idle → s.isAsserted x = true →
      leaves .pending ((s.setSource x { r with
        admission := new, state := .pending, count := 1, firstTime := some s.now
        lastTime := some s.now }).restartGaps x))

/-- CONFIG_LINE of a line whose source is IDLE replaces sense and filter and resynchronises the filter to the raw level of
the latest sample, with no report (R114, R115). -/
def Obligations.ConfigLineTakes : Prop :=
  ∀ (n : LineId) (e : Sense) (f : Fin 8) (tag : Byte) (slot : SlotId) (s : State), s.canTake 0 0x03#8 tag slot →
    (s.source (lineSource n)).state = .idle →
    exec (.configLine 0#8 tag [byteOf n.val, e.code, byteOf f.val]) s =
      .next ((s.setLine n { s.line n with
          sense := e, filter := f.val, filtered := (s.line n).raw, runCount := 0 }).answered
        slot 0 0x03#8 tag .ok [byteOf n.val, flagByte (s.line n).raw])

/-- CONFIG_TIMER sets a STOPPED timer and clears its pending period; on a RUNNING or WAITING timer of the same mode and
watched source it stores the pending period (R137). -/
def Obligations.ConfigTimerTakes : Prop :=
  ∀ (k : TimerId) (m : TimerMode) (period : Nat) (w : LineId) (tag : Byte) (slot : SlotId) (s : State),
    s.canTake 0 0x04#8 tag slot → 1 ≤ period → period ≤ 65535 →
    ((s.timer k).state = .stopped →
      exec (.configTimer 0#8 tag ([byteOf k.val, m.code] ++ word16 period ++ [byteOf w.val])) s =
        .next ((s.setTimer k { s.timer k with
            mode := m, period := period, pendingPeriod := none, watched := w }).answered
          slot 0 0x04#8 tag .ok ([byteOf k.val, 0#8] ++ word16 period ++ [0#8, 0#8]))) ∧
    ((s.timer k).state ≠ .stopped → (s.timer k).mode = m → (s.timer k).watched = w →
      exec (.configTimer 0#8 tag ([byteOf k.val, m.code] ++ word16 period ++ [byteOf w.val])) s =
        .next ((s.setTimer k { s.timer k with pendingPeriod := some period }).answered
          slot 0 0x04#8 tag .ok
          ([byteOf k.val, (s.timer k).state.code] ++ word16 (s.timer k).period ++ word16 period)))

/-- START_TIMER in every state loads the timer and makes it RUNNING (R128, R135); STOP_TIMER in every state makes it
STOPPED and keeps the rest of its record (R136). Neither touches a source. -/
def Obligations.TimerStartsAndStops : Prop :=
  ∀ (k : TimerId) (tag : Byte) (slot : SlotId) (s : State),
    (s.canTake 0 0x05#8 tag slot →
      exec (.startTimer 0#8 tag [byteOf k.val]) s =
        .next ((s.setTimer k (s.timer k).restarted).answered slot 0 0x05#8 tag .ok
          ([byteOf k.val] ++ word16 ((s.timer k).pendingPeriod.getD (s.timer k).period) ++
            word16 ((s.timer k).pendingPeriod.getD (s.timer k).period)))) ∧
    (s.canTake 0 0x06#8 tag slot →
      exec (.stopTimer 0#8 tag [byteOf k.val]) s =
        .next ((s.setTimer k { s.timer k with state := .stopped }).answered slot 0 0x06#8 tag .ok
          ([byteOf k.val, (s.timer k).state.code] ++ word16 (s.timer k).remaining)))

/-- SET_TIMEBASE with every timer STOPPED sets the time base, sets the counter to 0 and restarts the tick instants from
this moment; the reply carries the counter before it (R120, R123). -/
def Obligations.SetTimebaseTakes : Prop :=
  ∀ (b : TimeBase) (tag : Byte) (slot : SlotId) (s : State), s.canTake 0 0x07#8 tag slot →
    (∀ k : TimerId, (s.timer k).state = .stopped) →
    exec (.setTimebase 0#8 tag [b.code]) s =
      .next ((s.setTimeUnit { s.timeUnit with
          timeBase := b, counter := 0
          nextTick := some (s.clock + match b with
            | .us1 => 1
            | .us10 => 10
            | .us100 => 100
            | .ms1 => 1000) }).answered slot 0 0x07#8 tag .ok ([b.code] ++ word32 s.timeUnit.counter))

/-- SET_ALERT: the settings are replaced and the pin and the gap change by the table of R103, which never starts a gap;
the reply shows the settings, the urgent condition and the pin after it (R99). -/
def Obligations.SetAlertTakes : Prop :=
  ∀ (enabled : Bool) (mode : AlertMode) (tag : Byte) (slot : SlotId) (s : State), s.canTake 0 0x08#8 tag slot →
    let a := s.alert
    let u := urgent s.sources
    let leaves := fun a' : Alert =>
      exec (.setAlert 0#8 tag [flagByte enabled, mode.code]) s =
        .next ((s.setAlertBlock a').answered slot 0 0x08#8 tag .ok
          [flagByte enabled, mode.code, flagByte u, flagByte a'.pin])
    (a.enabled = false → enabled = true → leaves { enabled := true, mode := mode, pin := u, gap := none }) ∧
    (a.enabled = true → enabled = false → leaves { enabled := false, mode := mode, pin := false, gap := none }) ∧
    (a.enabled = false → enabled = false → a.mode ≠ mode →
      leaves { enabled := false, mode := mode, pin := false, gap := none }) ∧
    (a.enabled = true → enabled = true → a.mode = .level → mode = .renew → a.gap = none →
      leaves { enabled := true, mode := .renew, pin := a.pin, gap := none }) ∧
    (a.enabled = true → enabled = true → a.mode = .renew → mode = .level → a.gap = none →
      leaves { enabled := true, mode := .level, pin := a.pin, gap := none }) ∧
    (a.enabled = true → enabled = true → a.mode = .renew → mode = .level → a.gap ≠ none →
      leaves { enabled := true, mode := .level, pin := u, gap := none }) ∧
    (a.enabled = enabled → a.mode = mode → leaves a)

/-- RESET executed: its reply is queued and cached and the dispatcher becomes RESET_PENDING with the scope; the reset does
not take effect yet (R174, R182). -/
def Obligations.ResetTakes : Prop :=
  ∀ (scope : Scope) (tag : Byte) (slot : SlotId) (s : State), s.canTake 0 0x09#8 tag slot →
    exec (.reset 0#8 tag [scope.code]) s =
      .next ((s.setDispatcher { s.dispatcher with pendingReset := some scope }).answered
        slot 0 0x09#8 tag .ok [scope.code] true)

/-! ## Queries -/

/-- QUERY_SOURCE on any session: the 22 bytes of R21, and nothing changes. The hold byte counts milliseconds to the
expiry, rounded up; the clock's whole microseconds are the model's choice (log entry 1). -/
def Obligations.QuerySourceAnswers : Prop :=
  ∀ (x : SourceId) (σ : SessId) (tag : Byte) (slot : SlotId) (s : State), s.canTake σ 0x10#8 tag slot →
    let r := s.source x
    ∃ hold level : Byte,
      exec (.querySource (byteOf σ.val) tag [byteOf x.val]) s =
        .next (s.answered slot σ 0x10#8 tag .ok
          ([byteOf x.val, if x.val < 24 then 0#8 else 1#8, r.admission.code, byteOf r.priority.val,
              delivByte r.primary, delivByte r.fallback, r.completion.code, r.state.code, delivByte r.holder] ++
            word16 r.count ++ [flagByte r.saturated] ++ word32 (r.firstTime.getD 0) ++ word32 (r.lastTime.getD 0) ++
            [hold, level])) ∧
      (r.holdUntil = none → hold = 0#8) ∧
      (∀ t, r.holdUntil = some t → s.clock < t → hold = byteOf ((t - s.clock + 999) / 1000)) ∧
      (∀ n : LineId, x = lineSource n → level = flagByte (s.line n).filtered) ∧ (24 ≤ x.val → level = 0#8)

/-- QUERY_LINES on any session: line n in byte n div 8, bit n mod 8 of each 3-byte field, filtered levels first (R116);
QUERY_TIMER on any session: the 14 bytes of R139. Neither changes anything. -/
def Obligations.LineAndTimerQueriesAnswer : Prop :=
  ∀ (σ : SessId) (tag : Byte) (slot : SlotId) (s : State),
    (s.canTake σ 0x11#8 tag slot →
      ∃ contents : List Byte, contents.length = 6 ∧
        exec (.queryLines (byteOf σ.val) tag []) s = .next (s.answered slot σ 0x11#8 tag .ok contents) ∧
        ∀ n : LineId,
          (contents.getD (n.val / 8) 0#8).getLsbD (n.val % 8) = (s.line n).filtered ∧
          (contents.getD (3 + n.val / 8) 0#8).getLsbD (n.val % 8) = (s.line n).raw) ∧
    ∀ k : TimerId, s.canTake σ 0x12#8 tag slot →
      exec (.queryTimer (byteOf σ.val) tag [byteOf k.val]) s =
        .next (s.answered slot σ 0x12#8 tag .ok
          ([byteOf k.val, (s.timer k).mode.code, (s.timer k).state.code] ++ word16 (s.timer k).period ++
            word16 ((s.timer k).pendingPeriod.getD 0) ++ word16 (s.timer k).remaining ++
            [byteOf (s.timer k).watched.val] ++ word32 s.timeUnit.counter))

/-- READ_TIME on any session: the counter, the time base code and one bit per timer that is not STOPPED; nothing
changes, and the third field is 0 exactly when every timer is STOPPED (R125). That SET_TIMEBASE is then taken, and
otherwise refused, is R123's, in SetTimebaseTakes and BusyRefusals. -/
def Obligations.ReadTimeAnswers : Prop :=
  ∀ (σ : SessId) (tag : Byte) (slot : SlotId) (s : State), s.canTake σ 0x13#8 tag slot →
    ∃ notStopped : Byte,
      exec (.readTime (byteOf σ.val) tag []) s =
        .next (s.answered slot σ 0x13#8 tag .ok
          (word32 s.timeUnit.counter ++ [s.timeUnit.timeBase.code, notStopped])) ∧
      (∀ k : TimerId, notStopped.getLsbD k.val = decide ((s.timer k).state ≠ .stopped)) ∧
      (notStopped = 0#8 ↔ ∀ k : TimerId, (s.timer k).state = .stopped)

/-- QUERY_SESSION on any session: the contents of R89, the six parameter bytes 0 for a CLOSED session; nothing
changes. -/
def Obligations.QuerySessionAnswers : Prop :=
  ∀ (d : Deliv) (σ : SessId) (tag : Byte) (slot : SlotId) (s : State), s.canTake σ 0x14#8 tag slot →
    let v := s.session d
    let answers := fun (state : Byte) (params : List Byte) =>
      exec (.querySession (byteOf σ.val) tag [byteOf (d.val + 1)]) s =
        .next (s.answered slot σ 0x14#8 tag .ok
          ([byteOf (d.val + 1), state] ++ params ++
            [v.nextDN, byteOf v.stall.count, flagByte s.transmitter.stallOwed[d], byteOf v.offers.length,
              byteOf v.inService.length] ++
            v.offers.flatMap (fun o =>
              [o.dn, byteOf o.source.val, byteOf o.priority.val, byteOf o.sendNumber,
                if o.sendOwed then 2#8 else if o.ackDeadline.isSome then 1#8 else 0#8]) ++
            v.inService.flatMap fun e => [byteOf e.source.val, byteOf e.priority.val, e.dn]))
    (v.status = .closed → answers 0#8 [0#8, 0#8, 0#8, 0#8, 0#8, 0#8]) ∧
    (∀ p, v.status = .active p → answers 1#8 p.payload) ∧ ∀ p, v.status = .stalled p → answers 2#8 p.payload

/-! ## Captures -/

/-- SNAPSHOT on an EMPTY buffer copies all 32 records and the counter and makes the sender the owner (R143, R144), after
the expiries that wait from the latest tick have been taken, so that a capture that shows the tick's value shows them
(R146); the waiting list is the model's (log entry 4), and a hold is active exactly while hold until is present (log entry
3). On a HELD buffer it is answered HELD, with the time and the owner of
the capture held, and changes nothing (R145). -/
def Obligations.SnapshotTakes : Prop :=
  ∀ (σ : SessId) (tag : Byte) (slot : SlotId) (s : State), s.canTake σ 0x18#8 tag slot →
    (s.capture = none →
      let t := s.waitingTaken
      exec (.snapshot (byteOf σ.val) tag []) s =
        .next ((t.setCapture (some
            { owner := σ, time := s.timeUnit.counter, pagesRead := Vector.replicate 4 false
              entries := Vector.ofFn fun x =>
                { state := (t.source x).state, holder := (t.source x).holder, admission := (t.source x).admission
                  priority := (t.source x).priority, count := (t.source x).count
                  saturated := (t.source x).saturated, firstTime := (t.source x).firstTime
                  lastTime := (t.source x).lastTime, hold := (t.source x).holdUntil.isSome } })).answered
          slot σ 0x18#8 tag .ok (word32 s.timeUnit.counter ++ [byteOf σ.val]))) ∧
    (s.timeUnit.dueExpiries = [] → s.waitingTaken = s) ∧
    ∀ c : Capture, s.capture = some c →
      exec (.snapshot (byteOf σ.val) tag []) s =
        .next (s.answered slot σ 0x18#8 tag .held (word32 c.time ++ [byteOf c.owner.val]))

/-- READ_CAPTURE by the owner: page, capture time and the eight entries of sources 8p to 8p+7 in the layout of R173; the
page joins the pages read set, and the read that completes the set releases the capture (R147, R148). Of an EMPTY buffer it
is refused with CAPTURE_EMPTY, from another session with CAPTURE_BUSY (R147). -/
def Obligations.CaptureIsRead : Prop :=
  ∀ (σ : SessId) (p : Fin 4) (tag : Byte) (slot : SlotId) (s : State), s.canTake σ 0x19#8 tag slot →
    (s.capture = none →
      exec (.readCapture (byteOf σ.val) tag [byteOf p.val]) s =
        .next (s.answered slot σ 0x19#8 tag .captureEmpty [])) ∧
    ∀ c : Capture, s.capture = some c →
      (c.owner ≠ σ →
        exec (.readCapture (byteOf σ.val) tag [byteOf p.val]) s =
          .next (s.answered slot σ 0x19#8 tag .captureBusy [])) ∧
      (c.owner = σ →
        exec (.readCapture (byteOf σ.val) tag [byteOf p.val]) s =
          .next ((s.setCapture
              (if ∀ q : Fin 4, q = p ∨ c.pagesRead[q] = true then none
                else some { c with pagesRead := c.pagesRead.set p true })).answered slot σ 0x19#8 tag .ok
            ([byteOf p.val] ++ word32 c.time ++
              (List.finRange 8).flatMap fun j =>
                let e := c.entries[8 * p.val + j.val]'(by omega)
                [e.state.code, delivByte e.holder, e.admission.code, byteOf e.priority.val] ++ word16 e.count ++
                  [byteOf ((if e.saturated then 1 else 0) + if e.hold then 2 else 0)] ++
                  word32 (e.firstTime.getD 0) ++ word32 (e.lastTime.getD 0))))

/-- DISCARD_CAPTURE by the owner releases the capture and reports the pages read, bit p for page p; of an EMPTY buffer it
is refused with CAPTURE_EMPTY, from another session with CAPTURE_BUSY, and the capture stays held (R149). -/
def Obligations.CaptureIsDiscarded : Prop :=
  ∀ (σ : SessId) (tag : Byte) (slot : SlotId) (s : State), s.canTake σ 0x1A#8 tag slot →
    (s.capture = none →
      exec (.discardCapture (byteOf σ.val) tag []) s = .next (s.answered slot σ 0x1A#8 tag .captureEmpty [])) ∧
    ∀ c : Capture, s.capture = some c →
      (c.owner ≠ σ →
        exec (.discardCapture (byteOf σ.val) tag []) s =
          .next (s.answered slot σ 0x1A#8 tag .captureBusy [])) ∧
      (c.owner = σ →
        ∃ pages : Byte,
          exec (.discardCapture (byteOf σ.val) tag []) s =
            .next ((s.setCapture none).answered slot σ 0x1A#8 tag .ok [pages]) ∧
          (∀ p : Fin 4, pages.getLsbD p.val = c.pagesRead[p]) ∧ pages.toNat < 16)

/-! ## Requests taken: the delivery sessions -/

/-- OPEN of a CLOSED session makes it ACTIVE with the parameters of the request and keeps the rest of its record; the
reply is its next DN (R77, R78). -/
def Obligations.OpenTakes : Prop :=
  ∀ (d : Deliv) (p : Params) (tag : Byte) (slot : SlotId) (s : State),
    s.canTake (sessionNumber d) 0x20#8 tag slot → p.Lawful → (s.session d).status = .closed →
    exec (.openSession (byteOf (sessionNumber d).val) tag p.payload) s =
      .next ((s.setSession d { s.session d with status := .active p }).answered
        slot (sessionNumber d) 0x20#8 tag .ok [(s.session d).nextDN])

/-- CLOSE: every offered source is merged, every source in service is completed, each once; the lists, the parameters,
the stall record and its notice are gone and a capture the session owns is released, while next DN, the rotation pointers
and every other source stay; the reply lists what it did (R64, R80, R81, R150). The premise that lists and sources agree
is kept by every step. -/
def Obligations.CloseTakes : Prop :=
  ∀ (d : Deliv) (tag : Byte) (slot : SlotId) (s : State), s.canTake (sessionNumber d) 0x21#8 tag slot →
    (s.session d).status ≠ .closed → s.ListsMatchSources →
    let v := s.session d
    ∃ after : Vector Source 32,
      (∀ o ∈ v.offers, after[o.source] =
        (s.source o.source).merged o (s.isLevelType o.source) (s.isAsserted o.source)) ∧
      (∀ e ∈ v.inService, after[e.source] =
        (s.source e.source).completed (s.isLevelType e.source) (s.isAsserted e.source) s.now) ∧
      (∀ x : SourceId, x ∉ v.offers.map Offer.source → x ∉ v.inService.map Entry.source → after[x] = s.source x) ∧
      exec (.close (byteOf (sessionNumber d).val) tag []) s =
        .next ((((((s.setSources after).setSession d { v with
            status := .closed, offers := [], inService := []
            stall := { exhaustingDN := none, withdrawn := [], count := 0 } }).setStallOwed d false).setCapture
            (s.capture.filter fun c => c.owner != sessionNumber d)).judged s).answered
          slot (sessionNumber d) 0x21#8 tag .ok
          ([byteOf v.offers.length] ++
            v.offers.flatMap (fun o => [byteOf o.source.val, after[o.source].state.code]) ++
            [byteOf v.inService.length] ++
            v.inService.flatMap (fun e => [byteOf e.source.val, after[e.source].state.code]) ++
            [byteOf v.stall.count, byteOf v.stall.withdrawn.length] ++
            v.stall.withdrawn.map fun x => byteOf x.val))

/-- SET_SESSION on an ACTIVE or STALLED session whose mode and window stay, or whose lists are empty, replaces the six
parameters and nothing else (R84). RESUME makes a STALLED session ACTIVE and keeps everything else; the reply counts the
in-service entries (R87). -/
def Obligations.SetSessionAndResumeTake : Prop :=
  ∀ (d : Deliv) (q : Params) (tag : Byte) (slot : SlotId) (s : State),
    (∀ p : Params, s.canTake (sessionNumber d) 0x22#8 tag slot → p.Lawful →
      (p.mode = q.mode ∧ p.window = q.window) ∨ ((s.session d).offers = [] ∧ (s.session d).inService = []) →
      ((s.session d).status = .active q →
        exec (.setSession (byteOf (sessionNumber d).val) tag p.payload) s =
          .next ((s.setSession d { s.session d with status := .active p }).answered
            slot (sessionNumber d) 0x22#8 tag .ok p.payload)) ∧
      ((s.session d).status = .stalled q →
        exec (.setSession (byteOf (sessionNumber d).val) tag p.payload) s =
          .next ((s.setSession d { s.session d with status := .stalled p }).answered
            slot (sessionNumber d) 0x22#8 tag .ok p.payload))) ∧
    (s.canTake (sessionNumber d) 0x23#8 tag slot → (s.session d).status = .stalled q →
      exec (.resume (byteOf (sessionNumber d).val) tag []) s =
        .next ((s.setSession d { s.session d with status := .active q }).answered
          slot (sessionNumber d) 0x23#8 tag .ok [byteOf (s.session d).inService.length]))

/-- ACCEPT removes the offer in whatever phase it stands. Under MANUAL its source goes IN_SERVICE at the session and an
entry with the offer's priority and DN is appended; under AUTO the source is completed at once and no entry is made. The
reply carries the source, its state and the offer's count (R16, R57, R58). The DNs of the list differ (R41). -/
def Obligations.AcceptTakes : Prop :=
  ∀ (d : Deliv) (p : Params) (o : Offer) (tag : Byte) (slot : SlotId) (s : State),
    s.canTake (sessionNumber d) 0x24#8 tag slot → (s.session d).status = .active p → o ∈ (s.session d).offers →
    ((s.session d).offers.map Offer.dn).Nodup →
    let v := s.session d
    let r := s.source o.source
    let after := r.completed (s.isLevelType o.source) (s.isAsserted o.source) s.now
    (r.completion = .manual →
      exec (.accept (byteOf (sessionNumber d).val) tag [o.dn]) s =
        .next ((((s.setSource o.source { r with state := .inService, holder := some d }).setSession d { v with
            offers := v.offers.filter fun q => q.dn != o.dn
            inService := v.inService ++ [{ source := o.source, priority := o.priority, dn := o.dn }] }).judged
            s).answered slot (sessionNumber d) 0x24#8 tag .ok ([byteOf o.source.val, 3#8] ++ word16 o.count))) ∧
    (r.completion = .auto →
      exec (.accept (byteOf (sessionNumber d).val) tag [o.dn]) s =
        .next ((((s.setSource o.source after).setSession d { v with
            offers := v.offers.filter fun q => q.dn != o.dn }).judged s).answered
          slot (sessionNumber d) 0x24#8 tag .ok ([byteOf o.source.val, after.state.code] ++ word16 o.count)))

/-- RETURN removes the offer, merges its source and then holds it for the session's hold time; no hold is set with a
hold time of 0 nor on a source with admit OFF (R17, R19, R60). -/
def Obligations.ReturnTakes : Prop :=
  ∀ (d : Deliv) (p : Params) (o : Offer) (tag : Byte) (slot : SlotId) (s : State),
    s.canTake (sessionNumber d) 0x25#8 tag slot → (s.session d).status = .active p → o ∈ (s.session d).offers →
    ((s.session d).offers.map Offer.dn).Nodup →
    let v := s.session d
    let merged := (s.source o.source).merged o (s.isLevelType o.source) (s.isAsserted o.source)
    let held :=
      if merged.admission = .off then { merged with holdUntil := none }
      else if p.holdTime = 0 then merged
      else { merged with holdUntil := some (s.clock + 1000 * p.holdTime) }
    exec (.returnOffer (byteOf (sessionNumber d).val) tag [o.dn]) s =
      .next ((((s.setSource o.source held).setSession d { v with
          offers := v.offers.filter fun q => q.dn != o.dn }).judged s).answered
        slot (sessionNumber d) 0x25#8 tag .ok [byteOf o.source.val, merged.state.code])

/-- DONE removes the entry of its source at whatever place it stands, and DONE_TOP the newest entry; the others keep
their order, the source is completed, and the reply gives it with its state (R18, R61, R62). -/
def Obligations.DoneTakes : Prop :=
  ∀ (d : Deliv) (x : SourceId) (tag : Byte) (slot : SlotId) (s : State), (s.session d).status ≠ .closed →
    let v := s.session d
    let after := (s.source x).completed (s.isLevelType x) (s.isAsserted x) s.now
    (s.canTake (sessionNumber d) 0x26#8 tag slot → (s.source x).state = .inService → (s.source x).holder = some d →
      (v.inService.map Entry.source).Nodup →
      exec (.done (byteOf (sessionNumber d).val) tag [byteOf x.val]) s =
        .next ((((s.setSource x after).setSession d { v with
            inService := v.inService.filter fun e => e.source != x }).judged s).answered
          slot (sessionNumber d) 0x26#8 tag .ok [byteOf x.val, after.state.code])) ∧
    ∀ (below : List Entry) (e : Entry), s.canTake (sessionNumber d) 0x27#8 tag slot → v.inService = below ++ [e] →
      e.source = x →
      exec (.doneTop (byteOf (sessionNumber d).val) tag []) s =
        .next ((((s.setSource x after).setSession d { v with inService := below }).judged s).answered
          slot (sessionNumber d) 0x27#8 tag .ok [byteOf x.val, after.state.code])

/-! ## The link's own happenings -/

/-- FRAME_FAULT of every cause and GAP_EXCEEDED: the frame in progress is discarded, the receiver hunts, the fault count
rises, saturating at 255, and LINK becomes owed (R157, R158, R162). GAP_EXCEEDED is the gap timer's instant reached (log
entry 1); in HUNT the timer does not run and nothing changes (log entry 6). -/
def Obligations.FrameFaultsCount : Prop :=
  ∀ s : State, s.phase = .running →
    let faulted := fun t : State =>
      (t.setReceiver { t.receiver with
        framing := .hunt, gapTimer := none, frameFaults := min 255 (t.receiver.frameFaults + 1) }).setTransmitter
        { t.transmitter with linkOwed := true }
    (∀ cause : FaultCause, exec (.frameFault cause) s = .next (faulted s)) ∧
    (∀ t, s.receiver.gapTimer = some t → exec .gapExceeded s = .next (faulted (s.setClock (max s.clock t)))) ∧
    (s.receiver.gapTimer = none → exec .gapExceeded s = .next s)

/-- CHARACTER_COMPLETED moves the receiver by the table of R156: SYNC opens a frame, the header and payload bytes are
stored, a LEN above 48 and a CRC that disagrees are frame faults, and a CRC that agrees makes a good frame. The gap
timer starts at the end of each character inside a frame, the next start bit stops it, and it can then not expire
before the character completes (R158; that the start bit is a moment of this command is the model's choice, log entry
11). A character error is discarded in HUNT and is a fault elsewhere (R157). -/
def Obligations.CharacterMovesReceiver : Prop :=
  ∀ (v : Byte) (s : State), s.phase = .running →
    let goes := fun f : Framing =>
      exec (.characterCompleted v (.completed true)) s =
        .next (s.setReceiver { s.receiver with framing := f, gapTimer := some (s.clock + 2000) })
    let faults := exec (.characterCompleted v (.completed true)) s = exec (.frameFault .crcDisagrees) s
    (s.receiver.framing = .hunt → v = 0xB6#8 → goes .headerLen) ∧
    (s.receiver.framing = .hunt → v ≠ 0xB6#8 → exec (.characterCompleted v (.completed true)) s = .next s) ∧
    (s.receiver.framing = .headerLen → v.toNat ≤ 48 → goes (.headerSess v)) ∧
    (s.receiver.framing = .headerLen → 49 ≤ v.toNat → faults) ∧
    (∀ len, s.receiver.framing = .headerSess len → goes (.headerType len v)) ∧
    (∀ len sess, s.receiver.framing = .headerType len sess → goes (.headerTag len sess v)) ∧
    (∀ len sess type, s.receiver.framing = .headerTag len sess type →
      (len = 0#8 → goes (.checkLow len sess type v [])) ∧ (len ≠ 0#8 → goes (.payload len sess type v []))) ∧
    (∀ len sess type tag taken, s.receiver.framing = .payload len sess type tag taken →
      (taken.length + 1 < len.toNat → goes (.payload len sess type tag (taken ++ [v]))) ∧
      (len.toNat ≤ taken.length + 1 → goes (.checkLow len sess type tag (taken ++ [v])))) ∧
    (∀ len sess type tag taken, s.receiver.framing = .checkLow len sess type tag taken →
      goes (.checkHigh len sess type tag taken v)) ∧
    (∀ len sess type tag taken low, s.receiver.framing = .checkHigh len sess type tag taken low →
      (v ++ low = crc16 (len :: sess :: type :: tag :: taken) →
        exec (.characterCompleted v (.completed true)) s =
          .next (s.anyGoodFrame { sess := sess, type := type, tag := tag, payload := taken })) ∧
      (v ++ low ≠ crc16 (len :: sess :: type :: tag :: taken) → faults)) ∧
    (s.receiver.framing = .hunt → exec (.characterCompleted v (.completed false)) s = .next s) ∧
    (s.receiver.framing ≠ .hunt →
      exec (.characterCompleted v (.completed false)) s = exec (.frameFault .characterError) s) ∧
    let started := s.setReceiver { s.receiver with gapTimer := none }
    exec (.characterCompleted v .startBit) s = .next started ∧ exec .gapExceeded started = .next started

/-- The characters of a whole frame, taken one by one by the machine from HUNT, each with its start bit or without, do what
the good frame of that TYPE does as one command (R156, R158, R159): for a request type its own command, for any other TYPE
UNKNOWN_TYPE. That a character sent without its start bit stands for both of its moments is the model's choice (log entry
11). -/
def Obligations.CharactersMakeTheFrame : Prop :=
  ∀ (f : ReqFrame) (starts : Bool) (s : State), s.phase = .running → s.receiver.framing = .hunt →
    f.payload.length ≤ 48 →
    let characters := (hostFrame f).flatMap fun v =>
      (if starts then [Instr.characterCompleted v .startBit] else []) ++ [.characterCompleted v (.completed true)]
    Sys2Proof.core.run characters.length (s.setPending characters) =
      Sys2Proof.core.run 1 (s.setPending [
        match Request.ofCode f.type with
        | some r => r.command f.sess f.tag f.payload
        | none => .unknownType f.type f.sess f.tag f.payload])

/-- PICK while LTX is idle (R163, R164): the oldest reply goes before every notice, then HELLO, LINK, and STALL in session
order. The frame's bytes and its CREDIT are fixed at the start (R160, R166); HELLO, LINK and STALL clear what they
report (R54, R162, R186, R187). -/
def Obligations.PickTakesRepliesThenNotices : Prop :=
  ∀ s : State, s.phase = .running → s.transmitter.frame = none →
    let credit := byteOf ((List.finRange 4).countP fun i => s.receiver.slots[i] == .free)
    (∀ r rest, s.transmitter.replyQueue = r :: rest →
      exec .pick s = .next (s.setTransmitter { s.transmitter with
        replyQueue := rest
        frame := some
          { kind := .reply r.slot r.startsReset
            bytes := partFrame r.sess 0x80#8 r.tag credit (r.type :: r.status.code :: r.contents) } })) ∧
    (s.transmitter.replyQueue = [] →
      (∀ cause, s.transmitter.hello = some cause →
        exec .pick s = .next (s.setTransmitter { s.transmitter with
          hello := none
          frame := some { kind := .hello, bytes := partFrame 0#8 0x90#8 0#8 credit [cause.code, 1#8, 32#8, 4#8] } })) ∧
      (s.transmitter.hello = none →
        (s.transmitter.linkOwed = true →
          exec .pick s = .next ((s.setReceiver { s.receiver with
              overruns := 0, frameFaults := 0, lastDiscarded := none }).setTransmitter { s.transmitter with
              linkOwed := false
              frame := some
                { kind := .link
                  bytes := partFrame 0#8 0x91#8 0#8 credit
                    ([byteOf s.receiver.overruns, byteOf s.receiver.frameFaults,
                        flagByte s.receiver.lastDiscarded.isSome] ++
                      match s.receiver.lastDiscarded with
                      | some (sess, tag) => [sess, tag]
                      | none => [0#8, 0#8]) } })) ∧
        (s.transmitter.linkOwed = false →
          ∀ d : Deliv, s.transmitter.stallOwed[d] = true → (∀ e : Deliv, e < d → s.transmitter.stallOwed[e] = false) →
            ∀ dn, (s.session d).stall.exhaustingDN = some dn →
              exec .pick s = .next ((s.setSession d { s.session d with
                  stall := { exhaustingDN := none, withdrawn := [], count := 0 } }).setTransmitter { s.transmitter with
                  stallOwed := s.transmitter.stallOwed.set d false
                  frame := some
                    { kind := .stall d
                      bytes := partFrame (byteOf (d.val + 1)) 0x92#8 0#8 credit
                        ([byteOf (s.session d).stall.count, dn, byteOf (s.session d).stall.withdrawn.length] ++
                          (s.session d).stall.withdrawn.map fun x => byteOf x.val) } }))))

/-- PICK with no reply and no notice (R39, R164, R165): the sessions are polled from the one after the round-robin
pointer, and the first with an owed send or an eligible source is served and becomes the pointer. A resend goes before a
new offer: it raises the send number and is no longer owed (R49). A new offer claims the selected source (R14), is
appended with the next free DN and sets the rotation pointer (R38, R40, R41). With no such session nothing changes. -/
def Obligations.PickPollsTheSessions : Prop :=
  ∀ s : State, s.phase = .running → s.transmitter.frame = none → s.transmitter.replyQueue = [] →
    s.transmitter.hello = none → s.transmitter.linkOwed = false → (∀ d : Deliv, s.transmitter.stallOwed[d] = false) →
    let silent := fun d : Deliv =>
      (s.session d).isActive = false ∨ ((∀ o ∈ (s.session d).offers, o.sendOwed = false) ∧ s.select d = none)
    let order := match s.transmitter.rrPointer with
      | none => [0, 1, 2, 3]
      | some p => [p + 1, p + 2, p + 3, p]
    let served := fun (d : Deliv) (o : Offer) (t : State) =>
      exec .pick s = .next (t.setTransmitter { s.transmitter with
        rrPointer := some d
        frame := some
          { kind := .evt d o.dn
            bytes := partFrame (byteOf (d.val + 1)) 0x81#8 o.dn
              (byteOf ((List.finRange 4).countP fun i => s.receiver.slots[i] == .free))
              ([byteOf o.source.val, byteOf o.priority.val] ++ word16 o.count ++ [flagByte o.saturated] ++
                word32 (o.firstTime.getD 0) ++ word32 (o.lastTime.getD 0) ++
                [byteOf o.sendNumber, flagByte (s.lineLevel o.source)]) } })
    ((∀ d : Deliv, silent d) → exec .pick s = .next s) ∧
    ∀ (passed rest : List Deliv) (d : Deliv), order = passed ++ d :: rest → (∀ e ∈ passed, silent e) →
      (s.session d).isActive = true →
      (∀ (before after : List Offer) (o : Offer), (s.session d).offers = before ++ o :: after →
        (∀ q ∈ before, q.sendOwed = false) → o.sendOwed = true →
        let o' := { o with sendNumber := o.sendNumber + 1, sendOwed := false }
        served d o' (s.setSession d { s.session d with offers := before ++ o' :: after })) ∧
      (∀ x : SourceId, (∀ q ∈ (s.session d).offers, q.sendOwed = false) → s.select d = some x →
        let r := s.source x
        let dn := (s.session d).assignDN
        let o : Offer :=
          { dn := dn, source := x, priority := r.priority, count := r.count, saturated := r.saturated
            firstTime := r.firstTime, lastTime := r.lastTime, sendNumber := 1, sendOwed := false, ackDeadline := none }
        served d o (((s.setSource x { r with
            state := .offered, holder := some d, count := 0, saturated := false, firstTime := none
            lastTime := none }).setSession d { s.session d with
            nextDN := dn + 1, offers := (s.session d).offers ++ [o]
            rotation := (s.session d).rotation.set r.priority (some x) }).judged s))

/-- END_OF_FRAME: LTX falls idle and a pick is taken (R166). A reply's end frees its slot, counted in the next frame's
CREDIT or not by the order taken (R160, R161, R167); an EVT frame's end starts the ack deadline of the offer it was
started for, if that still stands (R50); the end of a notice has no effect of its own. -/
def Obligations.EndOfFrameTakesItsEffect : Prop :=
  ∀ (f : TxFrame) (s : State), s.phase = .running → s.transmitter.frame = some f →
    let idle := s.setTransmitter { s.transmitter with frame := none }
    let freed := fun (slot : SlotId) (t : State) =>
      t.setReceiver { t.receiver with
        slots := t.receiver.slots.set slot .free, arrivals := t.receiver.arrivals.filter (· != slot) }
    (∀ slot, f.kind = .reply slot false →
      exec (.endOfFrame .freeThenPick) s = exec .pick (freed slot idle) ∧
      ∃ t, exec .pick idle = .next t ∧ exec (.endOfFrame .pickThenFree) s = .next (freed slot t)) ∧
    (∀ order, f.kind = .hello ∨ f.kind = .link ∨ (∃ d, f.kind = .stall d) →
      exec (.endOfFrame order) s = exec .pick idle) ∧
    ∀ order d dn, f.kind = .evt d dn →
      ((∀ o ∈ (s.session d).offers, o.dn ≠ dn) → exec (.endOfFrame order) s = exec .pick idle) ∧
      ∀ p, (s.session d).params = some p → ((s.session d).offers.map Offer.dn).Nodup →
        exec (.endOfFrame order) s = exec .pick (idle.setSession d { s.session d with
          offers := (s.session d).offers.map fun o =>
            if o.dn = dn then { o with ackDeadline := some (s.clock + 1000 * p.ackTimeout) } else o })

/-- The end of the reply of an executed RESET makes the reset take effect and a pick is taken on what it leaves (R184).
FULL returns every block to its reset values with the filtered levels at the raw levels (R22, R90, R104, R118, R140,
R151, R169). DELIVERY keeps configuration, lines, time base, counter and ticks, clears every source and raises the
admitted level-type sources whose lines are asserted, which restarts the GAP timers that watch them; the pin follows the
condition with no gap (R23, R104, R141). HELLO becomes owed with the scope's cause (R186). -/
def Obligations.ResetTakesEffect : Prop :=
  ∀ (f : TxFrame) (slot : SlotId) (order : EndOrder) (s : State), s.phase = .running → s.transmitter.frame = some f →
    f.kind = .reply slot true →
    let restarted := fun cause : Cause =>
      { s with
        sessions := Vector.replicate 4 Session.reset
        capture := none
        receiver :=
          { framing := .hunt, gapTimer := none, slots := Vector.replicate 4 .free, arrivals := [], overruns := 0
            lastDiscarded := none, frameFaults := 0 }
        dispatcher := { pendingReset := none, caches := Vector.replicate 5 none }
        transmitter :=
          { replyQueue := [], hello := some cause, linkOwed := false, stallOwed := Vector.replicate 4 false
            rrPointer := none, frame := none } }
    (s.dispatcher.pendingReset = some .full →
      exec (.endOfFrame order) s = exec .pick
        { restarted .full with
          sources := Vector.replicate 32 Source.reset
          lines := Vector.ofFn fun n =>
            { sense := .rise, filter := 0, raw := (s.line n).raw, filtered := (s.line n).raw, runCount := 0 }
          timeUnit :=
            { timeBase := .us10, counter := 0, nextTick := some (s.clock + 10)
              timers := Vector.replicate 8 Timer.reset, dueExpiries := [] }
          alert := { enabled := false, mode := .level, pin := false, gap := none } }) ∧
    (s.dispatcher.pendingReset = some .delivery →
      let raised := fun x : SourceId => decide ((s.source x).admission ≠ .off) && s.isAsserted x
      let sources := Vector.ofFn fun x : SourceId =>
        { s.source x with
          state := if raised x then .pending else .idle, holder := none, count := if raised x then 1 else 0
          saturated := false, firstTime := if raised x then some s.now else none
          lastTime := if raised x then some s.now else none, holdUntil := none }
      exec (.endOfFrame order) s = exec .pick
        { restarted .delivery with
          sources := sources
          timeUnit := { s.timeUnit with
            timers := Vector.ofFn fun k =>
              if (s.timer k).mode = .gap ∧ (s.timer k).state ≠ .stopped ∧ raised (lineSource (s.timer k).watched) then
                (s.timer k).restarted
              else s.timer k }
          alert := { s.alert with gap := none, pin := s.alert.enabled && urgent sources } })

/-! ## The reference clock and the ticks -/

/-- ACK_DEADLINE_EXPIRY of an AWAITING offer: with the send number at most the retry limit the offer becomes OWED (R51);
above it the session stalls: every offer is withdrawn and its source merged, the state becomes STALLED, the stall record
is written and the STALL notice owed, while the in-service list, next DN and the rotation stay (R53, R54). The command is
the deadline's instant reached (log entry 1). -/
def Obligations.AckDeadlineExpires : Prop :=
  ∀ (d : Deliv) (p : Params) (o : Offer) (t : Instant) (s : State), s.phase = .running →
    (s.session d).status = .active p → o ∈ (s.session d).offers → o.ackDeadline = some t →
    ((s.session d).offers.map Offer.dn).Nodup →
    let v := s.session d
    (o.sendNumber ≤ p.retryLimit →
      exec (.ackDeadlineExpiry d o.dn) s = .next ((s.setClock (max s.clock t)).setSession d { v with
        offers := v.offers.map fun q =>
          if q.dn = o.dn then { q with sendOwed := true, ackDeadline := none } else q })) ∧
    (p.retryLimit < o.sendNumber → (v.offers.map Offer.source).Nodup →
      ∃ after : Vector Source 32,
        (∀ q ∈ v.offers, after[q.source] =
          (s.source q.source).merged q (s.isLevelType q.source) (s.isAsserted q.source)) ∧
        (∀ x : SourceId, x ∉ v.offers.map Offer.source → after[x] = s.source x) ∧
        exec (.ackDeadlineExpiry d o.dn) s =
          .next (((((s.setClock (max s.clock t)).setSources after).setSession d { v with
            status := .stalled p, offers := []
            stall := { exhaustingDN := some o.dn, withdrawn := v.offers.map Offer.source
                       count := min 255 (v.stall.count + 1) } }).setStallOwed d true).judged s))

/-- HOLD_EXPIRY makes the field absent, and a PENDING source may enter the urgent condition at once (R20). RENEWAL_GAP_END
ends the gap: the pin goes high exactly when the condition holds with the alert enabled (R102). Each is its instant
reached (log entry 1); with no hold and with no gap nothing changes (log entry 6). -/
def Obligations.HoldsAndGapsEnd : Prop :=
  ∀ s : State, s.phase = .running →
    (∀ (x : SourceId) (t : Instant), (s.source x).holdUntil = some t →
      exec (.holdExpiry x) s = .next (((s.setClock (max s.clock t)).setSource x { s.source x with
        holdUntil := none }).judged s)) ∧
    (∀ x : SourceId, (s.source x).holdUntil = none → exec (.holdExpiry x) s = .next s) ∧
    (∀ t : Instant, s.alert.gap = some t →
      exec .renewalGapEnd s = .next ((s.setClock (max s.clock t)).setAlertBlock { s.alert with
        gap := none, pin := s.alert.enabled && urgent s.sources })) ∧
    (s.alert.gap = none → exec .renewalGapEnd s = .next s)

/-- TICK: the expiries that wait from the tick before are taken (log entry 4), the tick is marked (R120, R121, R129, R131;
the clock reaches it, log entry 1), and its expiries are taken with the tick's value one by one in timer order, each judged
by the alert output (R97, R101, R130, R132). So each timer that expires has its occurrence counted on its source, and the
other sources, the settings of the alert and every other block are untouched. -/
def Obligations.TickSteps : Prop :=
  ∀ (due : Instant) (s : State), s.phase = .running → s.timeUnit.nextTick = some due →
    let before := s.waitingTaken
    let marked := before.tickMarked due
    let t := marked.expiriesTaken (s.nextToExpire.map fun k => (k, s.timeUnit.counter + 1))
    exec .tick s = .next t ∧ t = (marked.setSources t.sources).setAlertBlock t.alert ∧
    (∀ k : TimerId, t.source (timerSource k) =
      if (s.timer k).stepped.2 then (before.source (timerSource k)).occurrenceTaken (s.timeUnit.counter + 1)
      else before.source (timerSource k)) ∧
    (∀ n : LineId, t.source (lineSource n) = s.source (lineSource n)) ∧
    t.alert.enabled = s.alert.enabled ∧ t.alert.mode = s.alert.mode ∧
    (s.timeUnit.dueExpiries = [] → before = s) ∧
    (s.timeUnit.dueExpiries = [] → (∀ k : TimerId, (s.timer k).stepped.2 = false) → t.alert = s.alert)

/-- TIMER_EXPIRY: an expiry that waits is taken alone, with its tick's value (R130, R132); a RUNNING timer with 1 remaining
expires at the next tick, whose other expiries wait (R129, R131, R132), after those of the tick before have been taken. The
waiting list is the model's, and so is that with more remaining a tick passes first (log entry 4), that the clock reaches
the tick (log entry 1), and that with the timer not RUNNING and nothing waiting nothing changes (log entry 6). -/
def Obligations.TimerExpires : Prop :=
  ∀ (k : TimerId) (s : State), s.phase = .running →
    (∀ before after τ, s.timeUnit.dueExpiries = before ++ (k, τ) :: after → (∀ e ∈ before, e.1 ≠ k) →
      exec (.timerExpiry k) s = .next ((s.setDueExpiries (before ++ after)).expiryTaken (k, τ))) ∧
    ((∀ e ∈ s.timeUnit.dueExpiries, e.1 ≠ k) → (s.timer k).state ≠ .running →
      exec (.timerExpiry k) s = .next s) ∧
    ((∀ e ∈ s.timeUnit.dueExpiries, e.1 ≠ k) → (s.timer k).state = .running → 2 ≤ (s.timer k).remaining →
      ∃ t, exec .tick s = .next t ∧ exec (.timerExpiry k) s = exec (.timerExpiry k) t) ∧
    ∀ due, (∀ e ∈ s.timeUnit.dueExpiries, e.1 ≠ k) → s.timeUnit.nextTick = some due → (s.timer k).state = .running →
      (s.timer k).remaining = 1 →
      let marked := s.waitingTaken.tickMarked due
      let others := s.nextToExpire.filter (· ≠ k)
      exec (.timerExpiry k) s =
        .next ((marked.setDueExpiries (others.map fun j => (j, s.timeUnit.counter + 1))).expiryTaken
          (k, s.timeUnit.counter + 1))

/-! ## Event lines -/

/-- The reports by sense and new level are those of R109. OCCURRENCE, ASSERTION and DEASSERTION: the filtered level becomes the new level, the source takes the report with the
present time (R5, R6, R7, R109, R110), a counted occurrence restarts the GAP timers that watch the line (R8, R133), and
the alert output judges once (R97). That the standalone commands also set the raw level and empty the run count is the
model's choice (log entry 7). -/
def Obligations.LineReportsAreTaken : Prop :=
  ([Sense.rise, .fall, .both, .high, .low].map (fun e => (e.report true, e.report false, e.isLevel)) =
    [(Report.occurrence, Report.nothing, false), (.nothing, .occurrence, false), (.occurrence, .occurrence, false),
      (.assertion, .deassertion, true), (.deassertion, .assertion, true)]) ∧
  ∀ (n : LineId) (level : Bool) (s : State), s.phase = .running → (s.line n).filtered ≠ level →
    let report := (s.line n).sense.report level
    (report = .occurrence → exec (.occurrence n level) s = .next (s.levelTaken n level)) ∧
    (report = .assertion → exec (.assertion n) s = .next (s.levelTaken n level)) ∧
    (report = .deassertion → exec (.deassertion n) s = .next (s.levelTaken n level))

/-- LINE_SAMPLE: 1 microsecond on, every line's raw level is the level on its pin, and its filter acts by the table of
R107: equal to the filtered level, the run is emptied; different below the filter, the run rises; different at the filter,
the filtered level changes and the report of its sense is taken by its source (R106, R109). A source whose line makes no
report and every TIMER source keep their records, and a GAP timer restarts exactly when its watched line counts (R133).
The alert output is left as the changes of level, taken one by one in line order and each judged, leave it (R97, R101,
R111; the order is the model's, log entry 7, and so is the clock, log entry 1).
While the part is held in reset both levels follow the pin and nothing is reported (R117). -/
def Obligations.LineSampleFilters : Prop :=
  ∀ (levels : BitVec 24) (s : State),
    (s.phase = .running →
      let changes := fun n : LineId =>
        decide (levels.getLsbD n.val ≠ (s.line n).filtered ∧ (s.line n).filter ≤ (s.line n).runCount)
      let report := fun n : LineId => if changes n then (s.line n).sense.report (levels.getLsbD n.val) else .nothing
      let taken := ((List.finRange 24).filter changes).foldl (fun t n => t.levelTaken n (levels.getLsbD n.val))
        (s.setClock (s.clock + 1))
      ∃ (sources : Vector Source 32) (alert : Alert),
        sources = taken.sources ∧ alert = taken.alert ∧
        (∀ n : LineId, sources[lineSource n] = (s.source (lineSource n)).reportTaken (report n) s.now) ∧
        (∀ k : TimerId, sources[timerSource k] = s.source (timerSource k)) ∧
        alert.enabled = s.alert.enabled ∧ alert.mode = s.alert.mode ∧
        ((∀ n : LineId, changes n = false) → alert = s.alert) ∧
        exec (.lineSample levels) s = .next
          { s with
            clock := s.clock + 1
            sources := sources
            alert := alert
            lines := Vector.ofFn fun n =>
              if levels.getLsbD n.val = (s.line n).filtered then
                { s.line n with raw := levels.getLsbD n.val, runCount := 0 }
              else if (s.line n).runCount < (s.line n).filter then
                { s.line n with raw := levels.getLsbD n.val, runCount := (s.line n).runCount + 1 }
              else { s.line n with raw := levels.getLsbD n.val, filtered := levels.getLsbD n.val, runCount := 0 }
            timeUnit := { s.timeUnit with
              timers := Vector.ofFn fun k =>
                let n := (s.timer k).watched
                if (s.timer k).mode = .gap ∧ (s.timer k).state ≠ .stopped ∧
                    (s.source (lineSource n)).counts (report n) then (s.timer k).restarted
                else s.timer k } }) ∧
    (s.phase ≠ .running →
      exec (.lineSample levels) s = .next ((s.setClock (s.clock + 1)).setLines (Vector.ofFn fun n =>
        { s.line n with raw := levels.getLsbD n.val, filtered := levels.getLsbD n.val })))

/-! ## Supply and RSTn -/

/-- POWER_ON, POWER_ON_RESET_END, RSTN_ASSERT and RSTN_RELEASE (R168, R185): POWER_ON and RSTn falling stop every block at
its reset value with LTX idle, no tick marked and no HELLO owed yet; the end of the reset reads the straps (R153), marks
the first tick (R120) and owes HELLO with cause POWER or PIN. With RSTn low the end of the millisecond leaves the part held,
and the later release ends the reset with cause POWER; RSTn rising before it leaves the reset to its millisecond. That RSTn
keeps its level at POWER_ON is the model's choice (log entry 12), and so is that the clock reaches the end of the
millisecond (log entry 1). -/
def Obligations.ResetsOfThePins : Prop :=
  ∀ (br1 br0 : Bool) (s : State),
    let atReset := fun (phase : Phase) (clock : Instant) (nextTick : Option Instant) (hello : Option Cause) =>
      { State.reset with
        clock := clock, phase := phase, linkRate := s.linkRate, pending := s.pending
        lines := Vector.ofFn fun n =>
          { sense := .rise, filter := 0, raw := (s.line n).raw, filtered := (s.line n).raw, runCount := 0 }
        timeUnit := { State.reset.timeUnit with nextTick := nextTick }
        transmitter := { State.reset.transmitter with hello := hello } }
    let rate := match br1, br0 with
      | false, false => LinkRate.r115200
      | false, true => .r460800
      | true, false => .r921600
      | true, true => .r3000000
    let ended := fun (clock : Instant) (cause : Cause) =>
      (atReset .running clock (some (clock + 10)) (some cause)).setLinkRate rate
    (s.phase = .running → exec .powerOn s = .next (atReset (.powerOn s.clock false) s.clock none none)) ∧
    (s.phase = .pinReset → exec .powerOn s = .next (atReset (.powerOn s.clock true) s.clock none none)) ∧
    (∀ since low, s.phase = .powerOn since low →
      exec .powerOn s = .next (atReset (.powerOn s.clock low) s.clock none none)) ∧
    (s.phase = .running → exec .rstnAssert s = .next (atReset .pinReset s.clock none none)) ∧
    (s.phase = .pinReset → exec (.rstnRelease br1 br0) s = .next (ended s.clock .pin)) ∧
    (∀ since low, s.phase = .powerOn since low →
      (low = false → exec (.powerOnResetEnd br1 br0) s = .next (ended (max s.clock (since + 1000)) .power)) ∧
      (low = true → exec (.powerOnResetEnd br1 br0) s = .next (s.setClock (max s.clock (since + 1000)))) ∧
      exec .rstnAssert s = .next (s.setPhase (.powerOn since true)) ∧
      (low = true → since + 1000 ≤ s.clock → exec (.rstnRelease br1 br0) s = .next (ended s.clock .power)) ∧
      (low = true → s.clock < since + 1000 →
        exec (.rstnRelease br1 br0) s = .next (s.setPhase (.powerOn since false))))

/-! ## Rules the commands share -/

/-- The target (R25) and the conditions of eligibility (R29 to R34) at a session; a source is eligible at no more than
one session. No active hold (R20) is read as hold until absent (log entry 3). -/
def Obligations.EligibilityRule : Prop :=
  ∀ (d : Deliv) (x : SourceId) (s : State),
    let r := s.source x
    let active := fun e : Deliv => ∃ p, (s.session e).status = .active p
    let target := (r.primary = some d ∧ active d) ∨
      (r.fallback = some d ∧ active d ∧ ∀ e, r.primary = some e → ¬ active e)
    (s.eligible d x = true ↔
      r.state = .pending ∧ r.admission = .on ∧ r.holdUntil = none ∧ target ∧
      ∃ p, (s.session d).status = .active p ∧ p.threshold ≤ r.priority ∧ (s.session d).offers.length < p.window ∧
        (s.session d).offers.length + (s.session d).inService.length < 8 ∧
        (p.mode = .nested → (∀ e ∈ (s.session d).inService, e.priority < r.priority) ∧
          ∀ o ∈ (s.session d).offers, o.priority < r.priority) ∧
        (p.mode = .single → (s.session d).offers = [] ∧ (s.session d).inService = [])) ∧
    (s.eligible d x = true → ∀ e : Deliv, e ≠ d → s.eligible e x = false)

/-- Selection at a session (R36, R37): an eligible source of the highest priority, the first of them in the count that
starts after the rotation pointer of that priority, or at id 0 when the pointer is absent; none exactly when no source
is eligible there. -/
def Obligations.SelectionRule : Prop :=
  ∀ (d : Deliv) (s : State),
    (s.select d = none ↔ ∀ x : SourceId, s.eligible d x = false) ∧
    ∀ x : SourceId, s.select d = some x →
      let rank := fun y : SourceId => match (s.session d).rotation[(s.source x).priority] with
        | none => y.val
        | some p => (y - p - 1).val
      s.eligible d x = true ∧
      ∀ y : SourceId, s.eligible d y = true →
        (s.source y).priority ≤ (s.source x).priority ∧
        ((s.source y).priority = (s.source x).priority → rank x ≤ rank y)

/-- The DN of a new offer is the first value met by counting upward from next DN, wrapping, that no offer of the list
holds (R41). -/
def Obligations.DeliveryNumberIsFresh : Prop :=
  ∀ v : Session, v.offers.length ≤ 4 →
    ∃ n ≤ 4, v.assignDN = v.nextDN + byteOf n ∧ v.assignDN ∉ v.offers.map Offer.dn ∧
      ∀ j < n, v.nextDN + byteOf j ∈ v.offers.map Offer.dn

/-- The merge (R17) and the post-completion rule (R18) case by case: the first case that applies. The parameters are the
source's type and whether its line is asserted. -/
def Obligations.ComingHomeRules : Prop :=
  ∀ (r : Source) (o : Offer) (levelType asserted : Bool) (now : Tick),
    let idle := { r with
      state := .idle, holder := none, count := 0, saturated := false, firstTime := none, lastTime := none }
    (r.admission = .off → r.merged o levelType asserted = idle ∧ r.completed levelType asserted now = idle) ∧
    (r.admission ≠ .off → levelType = false →
      r.merged o levelType asserted = { r with
        state := .pending, holder := none, count := min 65535 (o.count + r.count)
        saturated := o.saturated || r.saturated || decide (65535 < o.count + r.count), firstTime := o.firstTime
        lastTime := if 0 < r.count then r.lastTime else o.lastTime } ∧
      (0 < r.count → r.completed levelType asserted now = { r with state := .pending, holder := none }) ∧
      (r.count = 0 → r.completed levelType asserted now = idle)) ∧
    (r.admission ≠ .off → levelType = true → asserted = true →
      r.merged o levelType asserted = { r with
        state := .pending, holder := none, count := 1, saturated := false, firstTime := o.firstTime
        lastTime := o.lastTime } ∧
      r.completed levelType asserted now = { r with
        state := .pending, holder := none, count := 1, saturated := false, firstTime := some now
        lastTime := some now }) ∧
    (r.admission ≠ .off → levelType = true → asserted = false →
      r.merged o levelType asserted = idle ∧ r.completed levelType asserted now = idle)

/-- The judgement of the alert output (R96, R97, R100, R101, R102): disabled, the pin is low and no gap starts; while a gap
runs the pin stays low; otherwise the pin is high exactly when the condition holds afterwards, except that in RENEW mode
a happening that finds the pin high and in which a source joins as PENDING drops it and starts a gap of 2
microseconds. No active hold (R20) is read as hold until absent (log entry 3). -/
def Obligations.AlertFollowsCondition : Prop :=
  ∀ (a : Alert) (clock : Instant) (before after : Vector Source 32),
    let contributes := fun r : Source =>
      r.priority = 15 ∧ r.admission = .on ∧ ((r.state = .pending ∧ r.holdUntil = none) ∨ r.state = .offered)
    let holds := ∃ x : SourceId, contributes after[x]
    let joins := ∃ x : SourceId, ¬ contributes before[x] ∧ contributes after[x] ∧ after[x].state = .pending
    let b := a.judge clock before after
    b.enabled = a.enabled ∧ b.mode = a.mode ∧
    (a.enabled = false → b.pin = false ∧ b.gap = a.gap) ∧
    (a.enabled = true → a.gap ≠ none → b.pin = false ∧ b.gap = a.gap) ∧
    (a.enabled = true → a.gap = none → ¬ holds → b.pin = false ∧ b.gap = none) ∧
    (a.enabled = true → a.gap = none → holds → (a.mode = .renew ∧ a.pin = true ∧ joins) →
      b.pin = false ∧ b.gap = some (clock + 2)) ∧
    (a.enabled = true → a.gap = none → holds → ¬(a.mode = .renew ∧ a.pin = true ∧ joins) →
      b.pin = true ∧ b.gap = none)

/-! ## What every command keeps -/

/-- The source records, the session records and their agreement: counts, times, marks and holders (R3, R4, R6, R9), the
windows, capacities and modes (R31, R32, R34, R76), different DNs (R41), and each source OFFERED or IN_SERVICE in exactly
one list, that of its holder (R46). The SENDING offers are those of the line (R48). -/
def Obligations.DeliveryLawsKept : Prop :=
  ∀ s t : State, s.SourcesLawful → s.SessionsLawful → s.ListsMatchSources → s.SendingIsOnLine → step s = .next t →
    t.SourcesLawful ∧ t.SessionsLawful ∧ t.ListsMatchSources ∧ t.SendingIsOnLine

/-- The law of the pin and of the renewal gap (R98, R100), that a held capture still has a page to read (R148), and that
a STALL notice is owed only with the stall record it carries (R54, R187). -/
def Obligations.AlertCaptureAndNoticeLawsKept : Prop :=
  ∀ s t : State, step s = .next t →
    (s.AlertLaw → t.AlertLaw) ∧ (s.CaptureLawful → t.CaptureLawful) ∧ (s.StallNoticeLawful → t.StallNoticeLawful)

/-- The laws of the line records (R105) and of the timer records (R126, R127). -/
def Obligations.LineAndTimerLawsKept : Prop :=
  ∀ s t : State, s.LinesLawful → s.TimersLawful → step s = .next t → t.LinesLawful ∧ t.TimersLawful

/-- The receive slots, their order of arrival and the replies they wait for (R160), and the frame in progress (R156,
R158). -/
def Obligations.ReceiverLawsKept : Prop :=
  ∀ s t : State, s.SlotsLawful → s.receiver.Lawful → step s = .next t → t.SlotsLawful ∧ t.receiver.Lawful

/-- While the part is held in reset LTX is idle, every session is CLOSED and every source IDLE with no tick marked (R22,
R90, R140, R168), and a PENDING level-type source always has its line asserted (R116). -/
def Obligations.HeldAndAssertedLawsKept : Prop :=
  ∀ s t : State, s.HeldLaw → s.PendingLevelAsserted → step s = .next t → t.HeldLaw ∧ t.PendingLevelAsserted
end

