-- ==== Sys2Proof/Laws/State.lean ====
section
/-! SUPPORT. One lemma per block of the state per named update, so that no proof unfolds a record update, and the reading
and writing of one record of each table. -/

namespace Sys2Proof.Machine

variable (s : State)

/-! ## Blocks -/

@[simp] theorem State.setClock_clock (v : Instant) : (s.setClock v).clock = v := rfl
@[simp] theorem State.setClock_phase (v : Instant) : (s.setClock v).phase = s.phase := rfl
@[simp] theorem State.setClock_linkRate (v : Instant) : (s.setClock v).linkRate = s.linkRate := rfl
@[simp] theorem State.setClock_sources (v : Instant) : (s.setClock v).sources = s.sources := rfl
@[simp] theorem State.setClock_lines (v : Instant) : (s.setClock v).lines = s.lines := rfl
@[simp] theorem State.setClock_timeUnit (v : Instant) : (s.setClock v).timeUnit = s.timeUnit := rfl
@[simp] theorem State.setClock_sessions (v : Instant) : (s.setClock v).sessions = s.sessions := rfl
@[simp] theorem State.setClock_alert (v : Instant) : (s.setClock v).alert = s.alert := rfl
@[simp] theorem State.setClock_capture (v : Instant) : (s.setClock v).capture = s.capture := rfl
@[simp] theorem State.setClock_receiver (v : Instant) : (s.setClock v).receiver = s.receiver := rfl
@[simp] theorem State.setClock_dispatcher (v : Instant) : (s.setClock v).dispatcher = s.dispatcher := rfl
@[simp] theorem State.setClock_transmitter (v : Instant) : (s.setClock v).transmitter = s.transmitter := rfl
@[simp] theorem State.setClock_pending (v : Instant) : (s.setClock v).pending = s.pending := rfl

@[simp] theorem State.setPhase_clock (v : Phase) : (s.setPhase v).clock = s.clock := rfl
@[simp] theorem State.setPhase_phase (v : Phase) : (s.setPhase v).phase = v := rfl
@[simp] theorem State.setPhase_linkRate (v : Phase) : (s.setPhase v).linkRate = s.linkRate := rfl
@[simp] theorem State.setPhase_sources (v : Phase) : (s.setPhase v).sources = s.sources := rfl
@[simp] theorem State.setPhase_lines (v : Phase) : (s.setPhase v).lines = s.lines := rfl
@[simp] theorem State.setPhase_timeUnit (v : Phase) : (s.setPhase v).timeUnit = s.timeUnit := rfl
@[simp] theorem State.setPhase_sessions (v : Phase) : (s.setPhase v).sessions = s.sessions := rfl
@[simp] theorem State.setPhase_alert (v : Phase) : (s.setPhase v).alert = s.alert := rfl
@[simp] theorem State.setPhase_capture (v : Phase) : (s.setPhase v).capture = s.capture := rfl
@[simp] theorem State.setPhase_receiver (v : Phase) : (s.setPhase v).receiver = s.receiver := rfl
@[simp] theorem State.setPhase_dispatcher (v : Phase) : (s.setPhase v).dispatcher = s.dispatcher := rfl
@[simp] theorem State.setPhase_transmitter (v : Phase) : (s.setPhase v).transmitter = s.transmitter := rfl
@[simp] theorem State.setPhase_pending (v : Phase) : (s.setPhase v).pending = s.pending := rfl

@[simp] theorem State.setLinkRate_clock (v : LinkRate) : (s.setLinkRate v).clock = s.clock := rfl
@[simp] theorem State.setLinkRate_phase (v : LinkRate) : (s.setLinkRate v).phase = s.phase := rfl
@[simp] theorem State.setLinkRate_linkRate (v : LinkRate) : (s.setLinkRate v).linkRate = v := rfl
@[simp] theorem State.setLinkRate_sources (v : LinkRate) : (s.setLinkRate v).sources = s.sources := rfl
@[simp] theorem State.setLinkRate_lines (v : LinkRate) : (s.setLinkRate v).lines = s.lines := rfl
@[simp] theorem State.setLinkRate_timeUnit (v : LinkRate) : (s.setLinkRate v).timeUnit = s.timeUnit := rfl
@[simp] theorem State.setLinkRate_sessions (v : LinkRate) : (s.setLinkRate v).sessions = s.sessions := rfl
@[simp] theorem State.setLinkRate_alert (v : LinkRate) : (s.setLinkRate v).alert = s.alert := rfl
@[simp] theorem State.setLinkRate_capture (v : LinkRate) : (s.setLinkRate v).capture = s.capture := rfl
@[simp] theorem State.setLinkRate_receiver (v : LinkRate) : (s.setLinkRate v).receiver = s.receiver := rfl
@[simp] theorem State.setLinkRate_dispatcher (v : LinkRate) : (s.setLinkRate v).dispatcher = s.dispatcher := rfl
@[simp] theorem State.setLinkRate_transmitter (v : LinkRate) : (s.setLinkRate v).transmitter = s.transmitter := rfl
@[simp] theorem State.setLinkRate_pending (v : LinkRate) : (s.setLinkRate v).pending = s.pending := rfl

@[simp] theorem State.setSources_clock (v : Vector Source 32) : (s.setSources v).clock = s.clock := rfl
@[simp] theorem State.setSources_phase (v : Vector Source 32) : (s.setSources v).phase = s.phase := rfl
@[simp] theorem State.setSources_linkRate (v : Vector Source 32) : (s.setSources v).linkRate = s.linkRate := rfl
@[simp] theorem State.setSources_sources (v : Vector Source 32) : (s.setSources v).sources = v := rfl
@[simp] theorem State.setSources_lines (v : Vector Source 32) : (s.setSources v).lines = s.lines := rfl
@[simp] theorem State.setSources_timeUnit (v : Vector Source 32) : (s.setSources v).timeUnit = s.timeUnit := rfl
@[simp] theorem State.setSources_sessions (v : Vector Source 32) : (s.setSources v).sessions = s.sessions := rfl
@[simp] theorem State.setSources_alert (v : Vector Source 32) : (s.setSources v).alert = s.alert := rfl
@[simp] theorem State.setSources_capture (v : Vector Source 32) : (s.setSources v).capture = s.capture := rfl
@[simp] theorem State.setSources_receiver (v : Vector Source 32) : (s.setSources v).receiver = s.receiver := rfl
@[simp] theorem State.setSources_dispatcher (v : Vector Source 32) : (s.setSources v).dispatcher = s.dispatcher := rfl
@[simp] theorem State.setSources_transmitter (v : Vector Source 32) : (s.setSources v).transmitter = s.transmitter := rfl
@[simp] theorem State.setSources_pending (v : Vector Source 32) : (s.setSources v).pending = s.pending := rfl

@[simp] theorem State.setLines_clock (v : Vector Line 24) : (s.setLines v).clock = s.clock := rfl
@[simp] theorem State.setLines_phase (v : Vector Line 24) : (s.setLines v).phase = s.phase := rfl
@[simp] theorem State.setLines_linkRate (v : Vector Line 24) : (s.setLines v).linkRate = s.linkRate := rfl
@[simp] theorem State.setLines_sources (v : Vector Line 24) : (s.setLines v).sources = s.sources := rfl
@[simp] theorem State.setLines_lines (v : Vector Line 24) : (s.setLines v).lines = v := rfl
@[simp] theorem State.setLines_timeUnit (v : Vector Line 24) : (s.setLines v).timeUnit = s.timeUnit := rfl
@[simp] theorem State.setLines_sessions (v : Vector Line 24) : (s.setLines v).sessions = s.sessions := rfl
@[simp] theorem State.setLines_alert (v : Vector Line 24) : (s.setLines v).alert = s.alert := rfl
@[simp] theorem State.setLines_capture (v : Vector Line 24) : (s.setLines v).capture = s.capture := rfl
@[simp] theorem State.setLines_receiver (v : Vector Line 24) : (s.setLines v).receiver = s.receiver := rfl
@[simp] theorem State.setLines_dispatcher (v : Vector Line 24) : (s.setLines v).dispatcher = s.dispatcher := rfl
@[simp] theorem State.setLines_transmitter (v : Vector Line 24) : (s.setLines v).transmitter = s.transmitter := rfl
@[simp] theorem State.setLines_pending (v : Vector Line 24) : (s.setLines v).pending = s.pending := rfl

@[simp] theorem State.setTimeUnit_clock (v : TimerUnit) : (s.setTimeUnit v).clock = s.clock := rfl
@[simp] theorem State.setTimeUnit_phase (v : TimerUnit) : (s.setTimeUnit v).phase = s.phase := rfl
@[simp] theorem State.setTimeUnit_linkRate (v : TimerUnit) : (s.setTimeUnit v).linkRate = s.linkRate := rfl
@[simp] theorem State.setTimeUnit_sources (v : TimerUnit) : (s.setTimeUnit v).sources = s.sources := rfl
@[simp] theorem State.setTimeUnit_lines (v : TimerUnit) : (s.setTimeUnit v).lines = s.lines := rfl
@[simp] theorem State.setTimeUnit_timeUnit (v : TimerUnit) : (s.setTimeUnit v).timeUnit = v := rfl
@[simp] theorem State.setTimeUnit_sessions (v : TimerUnit) : (s.setTimeUnit v).sessions = s.sessions := rfl
@[simp] theorem State.setTimeUnit_alert (v : TimerUnit) : (s.setTimeUnit v).alert = s.alert := rfl
@[simp] theorem State.setTimeUnit_capture (v : TimerUnit) : (s.setTimeUnit v).capture = s.capture := rfl
@[simp] theorem State.setTimeUnit_receiver (v : TimerUnit) : (s.setTimeUnit v).receiver = s.receiver := rfl
@[simp] theorem State.setTimeUnit_dispatcher (v : TimerUnit) : (s.setTimeUnit v).dispatcher = s.dispatcher := rfl
@[simp] theorem State.setTimeUnit_transmitter (v : TimerUnit) : (s.setTimeUnit v).transmitter = s.transmitter := rfl
@[simp] theorem State.setTimeUnit_pending (v : TimerUnit) : (s.setTimeUnit v).pending = s.pending := rfl

@[simp] theorem State.setSessions_clock (v : Vector Session 4) : (s.setSessions v).clock = s.clock := rfl
@[simp] theorem State.setSessions_phase (v : Vector Session 4) : (s.setSessions v).phase = s.phase := rfl
@[simp] theorem State.setSessions_linkRate (v : Vector Session 4) : (s.setSessions v).linkRate = s.linkRate := rfl
@[simp] theorem State.setSessions_sources (v : Vector Session 4) : (s.setSessions v).sources = s.sources := rfl
@[simp] theorem State.setSessions_lines (v : Vector Session 4) : (s.setSessions v).lines = s.lines := rfl
@[simp] theorem State.setSessions_timeUnit (v : Vector Session 4) : (s.setSessions v).timeUnit = s.timeUnit := rfl
@[simp] theorem State.setSessions_sessions (v : Vector Session 4) : (s.setSessions v).sessions = v := rfl
@[simp] theorem State.setSessions_alert (v : Vector Session 4) : (s.setSessions v).alert = s.alert := rfl
@[simp] theorem State.setSessions_capture (v : Vector Session 4) : (s.setSessions v).capture = s.capture := rfl
@[simp] theorem State.setSessions_receiver (v : Vector Session 4) : (s.setSessions v).receiver = s.receiver := rfl
@[simp] theorem State.setSessions_dispatcher (v : Vector Session 4) : (s.setSessions v).dispatcher = s.dispatcher := rfl
@[simp] theorem State.setSessions_transmitter (v : Vector Session 4) : (s.setSessions v).transmitter = s.transmitter := rfl
@[simp] theorem State.setSessions_pending (v : Vector Session 4) : (s.setSessions v).pending = s.pending := rfl

@[simp] theorem State.setAlertBlock_clock (v : Alert) : (s.setAlertBlock v).clock = s.clock := rfl
@[simp] theorem State.setAlertBlock_phase (v : Alert) : (s.setAlertBlock v).phase = s.phase := rfl
@[simp] theorem State.setAlertBlock_linkRate (v : Alert) : (s.setAlertBlock v).linkRate = s.linkRate := rfl
@[simp] theorem State.setAlertBlock_sources (v : Alert) : (s.setAlertBlock v).sources = s.sources := rfl
@[simp] theorem State.setAlertBlock_lines (v : Alert) : (s.setAlertBlock v).lines = s.lines := rfl
@[simp] theorem State.setAlertBlock_timeUnit (v : Alert) : (s.setAlertBlock v).timeUnit = s.timeUnit := rfl
@[simp] theorem State.setAlertBlock_sessions (v : Alert) : (s.setAlertBlock v).sessions = s.sessions := rfl
@[simp] theorem State.setAlertBlock_alert (v : Alert) : (s.setAlertBlock v).alert = v := rfl
@[simp] theorem State.setAlertBlock_capture (v : Alert) : (s.setAlertBlock v).capture = s.capture := rfl
@[simp] theorem State.setAlertBlock_receiver (v : Alert) : (s.setAlertBlock v).receiver = s.receiver := rfl
@[simp] theorem State.setAlertBlock_dispatcher (v : Alert) : (s.setAlertBlock v).dispatcher = s.dispatcher := rfl
@[simp] theorem State.setAlertBlock_transmitter (v : Alert) : (s.setAlertBlock v).transmitter = s.transmitter := rfl
@[simp] theorem State.setAlertBlock_pending (v : Alert) : (s.setAlertBlock v).pending = s.pending := rfl

@[simp] theorem State.setCapture_clock (v : Option Capture) : (s.setCapture v).clock = s.clock := rfl
@[simp] theorem State.setCapture_phase (v : Option Capture) : (s.setCapture v).phase = s.phase := rfl
@[simp] theorem State.setCapture_linkRate (v : Option Capture) : (s.setCapture v).linkRate = s.linkRate := rfl
@[simp] theorem State.setCapture_sources (v : Option Capture) : (s.setCapture v).sources = s.sources := rfl
@[simp] theorem State.setCapture_lines (v : Option Capture) : (s.setCapture v).lines = s.lines := rfl
@[simp] theorem State.setCapture_timeUnit (v : Option Capture) : (s.setCapture v).timeUnit = s.timeUnit := rfl
@[simp] theorem State.setCapture_sessions (v : Option Capture) : (s.setCapture v).sessions = s.sessions := rfl
@[simp] theorem State.setCapture_alert (v : Option Capture) : (s.setCapture v).alert = s.alert := rfl
@[simp] theorem State.setCapture_capture (v : Option Capture) : (s.setCapture v).capture = v := rfl
@[simp] theorem State.setCapture_receiver (v : Option Capture) : (s.setCapture v).receiver = s.receiver := rfl
@[simp] theorem State.setCapture_dispatcher (v : Option Capture) : (s.setCapture v).dispatcher = s.dispatcher := rfl
@[simp] theorem State.setCapture_transmitter (v : Option Capture) : (s.setCapture v).transmitter = s.transmitter := rfl
@[simp] theorem State.setCapture_pending (v : Option Capture) : (s.setCapture v).pending = s.pending := rfl

@[simp] theorem State.setReceiver_clock (v : Receiver) : (s.setReceiver v).clock = s.clock := rfl
@[simp] theorem State.setReceiver_phase (v : Receiver) : (s.setReceiver v).phase = s.phase := rfl
@[simp] theorem State.setReceiver_linkRate (v : Receiver) : (s.setReceiver v).linkRate = s.linkRate := rfl
@[simp] theorem State.setReceiver_sources (v : Receiver) : (s.setReceiver v).sources = s.sources := rfl
@[simp] theorem State.setReceiver_lines (v : Receiver) : (s.setReceiver v).lines = s.lines := rfl
@[simp] theorem State.setReceiver_timeUnit (v : Receiver) : (s.setReceiver v).timeUnit = s.timeUnit := rfl
@[simp] theorem State.setReceiver_sessions (v : Receiver) : (s.setReceiver v).sessions = s.sessions := rfl
@[simp] theorem State.setReceiver_alert (v : Receiver) : (s.setReceiver v).alert = s.alert := rfl
@[simp] theorem State.setReceiver_capture (v : Receiver) : (s.setReceiver v).capture = s.capture := rfl
@[simp] theorem State.setReceiver_receiver (v : Receiver) : (s.setReceiver v).receiver = v := rfl
@[simp] theorem State.setReceiver_dispatcher (v : Receiver) : (s.setReceiver v).dispatcher = s.dispatcher := rfl
@[simp] theorem State.setReceiver_transmitter (v : Receiver) : (s.setReceiver v).transmitter = s.transmitter := rfl
@[simp] theorem State.setReceiver_pending (v : Receiver) : (s.setReceiver v).pending = s.pending := rfl

@[simp] theorem State.setDispatcher_clock (v : Dispatcher) : (s.setDispatcher v).clock = s.clock := rfl
@[simp] theorem State.setDispatcher_phase (v : Dispatcher) : (s.setDispatcher v).phase = s.phase := rfl
@[simp] theorem State.setDispatcher_linkRate (v : Dispatcher) : (s.setDispatcher v).linkRate = s.linkRate := rfl
@[simp] theorem State.setDispatcher_sources (v : Dispatcher) : (s.setDispatcher v).sources = s.sources := rfl
@[simp] theorem State.setDispatcher_lines (v : Dispatcher) : (s.setDispatcher v).lines = s.lines := rfl
@[simp] theorem State.setDispatcher_timeUnit (v : Dispatcher) : (s.setDispatcher v).timeUnit = s.timeUnit := rfl
@[simp] theorem State.setDispatcher_sessions (v : Dispatcher) : (s.setDispatcher v).sessions = s.sessions := rfl
@[simp] theorem State.setDispatcher_alert (v : Dispatcher) : (s.setDispatcher v).alert = s.alert := rfl
@[simp] theorem State.setDispatcher_capture (v : Dispatcher) : (s.setDispatcher v).capture = s.capture := rfl
@[simp] theorem State.setDispatcher_receiver (v : Dispatcher) : (s.setDispatcher v).receiver = s.receiver := rfl
@[simp] theorem State.setDispatcher_dispatcher (v : Dispatcher) : (s.setDispatcher v).dispatcher = v := rfl
@[simp] theorem State.setDispatcher_transmitter (v : Dispatcher) : (s.setDispatcher v).transmitter = s.transmitter := rfl
@[simp] theorem State.setDispatcher_pending (v : Dispatcher) : (s.setDispatcher v).pending = s.pending := rfl

@[simp] theorem State.setTransmitter_clock (v : Transmitter) : (s.setTransmitter v).clock = s.clock := rfl
@[simp] theorem State.setTransmitter_phase (v : Transmitter) : (s.setTransmitter v).phase = s.phase := rfl
@[simp] theorem State.setTransmitter_linkRate (v : Transmitter) : (s.setTransmitter v).linkRate = s.linkRate := rfl
@[simp] theorem State.setTransmitter_sources (v : Transmitter) : (s.setTransmitter v).sources = s.sources := rfl
@[simp] theorem State.setTransmitter_lines (v : Transmitter) : (s.setTransmitter v).lines = s.lines := rfl
@[simp] theorem State.setTransmitter_timeUnit (v : Transmitter) : (s.setTransmitter v).timeUnit = s.timeUnit := rfl
@[simp] theorem State.setTransmitter_sessions (v : Transmitter) : (s.setTransmitter v).sessions = s.sessions := rfl
@[simp] theorem State.setTransmitter_alert (v : Transmitter) : (s.setTransmitter v).alert = s.alert := rfl
@[simp] theorem State.setTransmitter_capture (v : Transmitter) : (s.setTransmitter v).capture = s.capture := rfl
@[simp] theorem State.setTransmitter_receiver (v : Transmitter) : (s.setTransmitter v).receiver = s.receiver := rfl
@[simp] theorem State.setTransmitter_dispatcher (v : Transmitter) : (s.setTransmitter v).dispatcher = s.dispatcher := rfl
@[simp] theorem State.setTransmitter_transmitter (v : Transmitter) : (s.setTransmitter v).transmitter = v := rfl
@[simp] theorem State.setTransmitter_pending (v : Transmitter) : (s.setTransmitter v).pending = s.pending := rfl

@[simp] theorem State.setPending_clock (v : List Instr) : (s.setPending v).clock = s.clock := rfl
@[simp] theorem State.setPending_phase (v : List Instr) : (s.setPending v).phase = s.phase := rfl
@[simp] theorem State.setPending_linkRate (v : List Instr) : (s.setPending v).linkRate = s.linkRate := rfl
@[simp] theorem State.setPending_sources (v : List Instr) : (s.setPending v).sources = s.sources := rfl
@[simp] theorem State.setPending_lines (v : List Instr) : (s.setPending v).lines = s.lines := rfl
@[simp] theorem State.setPending_timeUnit (v : List Instr) : (s.setPending v).timeUnit = s.timeUnit := rfl
@[simp] theorem State.setPending_sessions (v : List Instr) : (s.setPending v).sessions = s.sessions := rfl
@[simp] theorem State.setPending_alert (v : List Instr) : (s.setPending v).alert = s.alert := rfl
@[simp] theorem State.setPending_capture (v : List Instr) : (s.setPending v).capture = s.capture := rfl
@[simp] theorem State.setPending_receiver (v : List Instr) : (s.setPending v).receiver = s.receiver := rfl
@[simp] theorem State.setPending_dispatcher (v : List Instr) : (s.setPending v).dispatcher = s.dispatcher := rfl
@[simp] theorem State.setPending_transmitter (v : List Instr) : (s.setPending v).transmitter = s.transmitter := rfl
@[simp] theorem State.setPending_pending (v : List Instr) : (s.setPending v).pending = v := rfl

/-! ## Records -/

@[simp] theorem State.setSource_clock (x : SourceId) (r : Source) : (s.setSource x r).clock = s.clock := rfl
@[simp] theorem State.setSource_phase (x : SourceId) (r : Source) : (s.setSource x r).phase = s.phase := rfl
@[simp] theorem State.setSource_linkRate (x : SourceId) (r : Source) : (s.setSource x r).linkRate = s.linkRate := rfl
@[simp] theorem State.setSource_lines (x : SourceId) (r : Source) : (s.setSource x r).lines = s.lines := rfl
@[simp] theorem State.setSource_timeUnit (x : SourceId) (r : Source) : (s.setSource x r).timeUnit = s.timeUnit := rfl
@[simp] theorem State.setSource_sessions (x : SourceId) (r : Source) : (s.setSource x r).sessions = s.sessions := rfl
@[simp] theorem State.setSource_alert (x : SourceId) (r : Source) : (s.setSource x r).alert = s.alert := rfl
@[simp] theorem State.setSource_capture (x : SourceId) (r : Source) : (s.setSource x r).capture = s.capture := rfl
@[simp] theorem State.setSource_receiver (x : SourceId) (r : Source) : (s.setSource x r).receiver = s.receiver := rfl
@[simp] theorem State.setSource_dispatcher (x : SourceId) (r : Source) : (s.setSource x r).dispatcher = s.dispatcher := rfl
@[simp] theorem State.setSource_transmitter (x : SourceId) (r : Source) : (s.setSource x r).transmitter = s.transmitter := rfl
@[simp] theorem State.setSource_pending (x : SourceId) (r : Source) : (s.setSource x r).pending = s.pending := rfl

@[simp] theorem State.setLine_clock (n : LineId) (l : Line) : (s.setLine n l).clock = s.clock := rfl
@[simp] theorem State.setLine_phase (n : LineId) (l : Line) : (s.setLine n l).phase = s.phase := rfl
@[simp] theorem State.setLine_linkRate (n : LineId) (l : Line) : (s.setLine n l).linkRate = s.linkRate := rfl
@[simp] theorem State.setLine_sources (n : LineId) (l : Line) : (s.setLine n l).sources = s.sources := rfl
@[simp] theorem State.setLine_timeUnit (n : LineId) (l : Line) : (s.setLine n l).timeUnit = s.timeUnit := rfl
@[simp] theorem State.setLine_sessions (n : LineId) (l : Line) : (s.setLine n l).sessions = s.sessions := rfl
@[simp] theorem State.setLine_alert (n : LineId) (l : Line) : (s.setLine n l).alert = s.alert := rfl
@[simp] theorem State.setLine_capture (n : LineId) (l : Line) : (s.setLine n l).capture = s.capture := rfl
@[simp] theorem State.setLine_receiver (n : LineId) (l : Line) : (s.setLine n l).receiver = s.receiver := rfl
@[simp] theorem State.setLine_dispatcher (n : LineId) (l : Line) : (s.setLine n l).dispatcher = s.dispatcher := rfl
@[simp] theorem State.setLine_transmitter (n : LineId) (l : Line) : (s.setLine n l).transmitter = s.transmitter := rfl
@[simp] theorem State.setLine_pending (n : LineId) (l : Line) : (s.setLine n l).pending = s.pending := rfl

@[simp] theorem State.setTimers_clock (ts : Vector Timer 8) : (s.setTimers ts).clock = s.clock := rfl
@[simp] theorem State.setTimers_phase (ts : Vector Timer 8) : (s.setTimers ts).phase = s.phase := rfl
@[simp] theorem State.setTimers_linkRate (ts : Vector Timer 8) : (s.setTimers ts).linkRate = s.linkRate := rfl
@[simp] theorem State.setTimers_sources (ts : Vector Timer 8) : (s.setTimers ts).sources = s.sources := rfl
@[simp] theorem State.setTimers_lines (ts : Vector Timer 8) : (s.setTimers ts).lines = s.lines := rfl
@[simp] theorem State.setTimers_sessions (ts : Vector Timer 8) : (s.setTimers ts).sessions = s.sessions := rfl
@[simp] theorem State.setTimers_alert (ts : Vector Timer 8) : (s.setTimers ts).alert = s.alert := rfl
@[simp] theorem State.setTimers_capture (ts : Vector Timer 8) : (s.setTimers ts).capture = s.capture := rfl
@[simp] theorem State.setTimers_receiver (ts : Vector Timer 8) : (s.setTimers ts).receiver = s.receiver := rfl
@[simp] theorem State.setTimers_dispatcher (ts : Vector Timer 8) : (s.setTimers ts).dispatcher = s.dispatcher := rfl
@[simp] theorem State.setTimers_transmitter (ts : Vector Timer 8) : (s.setTimers ts).transmitter = s.transmitter := rfl
@[simp] theorem State.setTimers_pending (ts : Vector Timer 8) : (s.setTimers ts).pending = s.pending := rfl

@[simp] theorem State.setTimer_clock (k : TimerId) (t : Timer) : (s.setTimer k t).clock = s.clock := rfl
@[simp] theorem State.setTimer_phase (k : TimerId) (t : Timer) : (s.setTimer k t).phase = s.phase := rfl
@[simp] theorem State.setTimer_linkRate (k : TimerId) (t : Timer) : (s.setTimer k t).linkRate = s.linkRate := rfl
@[simp] theorem State.setTimer_sources (k : TimerId) (t : Timer) : (s.setTimer k t).sources = s.sources := rfl
@[simp] theorem State.setTimer_lines (k : TimerId) (t : Timer) : (s.setTimer k t).lines = s.lines := rfl
@[simp] theorem State.setTimer_sessions (k : TimerId) (t : Timer) : (s.setTimer k t).sessions = s.sessions := rfl
@[simp] theorem State.setTimer_alert (k : TimerId) (t : Timer) : (s.setTimer k t).alert = s.alert := rfl
@[simp] theorem State.setTimer_capture (k : TimerId) (t : Timer) : (s.setTimer k t).capture = s.capture := rfl
@[simp] theorem State.setTimer_receiver (k : TimerId) (t : Timer) : (s.setTimer k t).receiver = s.receiver := rfl
@[simp] theorem State.setTimer_dispatcher (k : TimerId) (t : Timer) : (s.setTimer k t).dispatcher = s.dispatcher := rfl
@[simp] theorem State.setTimer_transmitter (k : TimerId) (t : Timer) : (s.setTimer k t).transmitter = s.transmitter := rfl
@[simp] theorem State.setTimer_pending (k : TimerId) (t : Timer) : (s.setTimer k t).pending = s.pending := rfl

@[simp] theorem State.setDueExpiries_clock (d : List (TimerId × Tick)) : (s.setDueExpiries d).clock = s.clock := rfl
@[simp] theorem State.setDueExpiries_phase (d : List (TimerId × Tick)) : (s.setDueExpiries d).phase = s.phase := rfl
@[simp] theorem State.setDueExpiries_linkRate (d : List (TimerId × Tick)) : (s.setDueExpiries d).linkRate = s.linkRate := rfl
@[simp] theorem State.setDueExpiries_sources (d : List (TimerId × Tick)) : (s.setDueExpiries d).sources = s.sources := rfl
@[simp] theorem State.setDueExpiries_lines (d : List (TimerId × Tick)) : (s.setDueExpiries d).lines = s.lines := rfl
@[simp] theorem State.setDueExpiries_sessions (d : List (TimerId × Tick)) : (s.setDueExpiries d).sessions = s.sessions := rfl
@[simp] theorem State.setDueExpiries_alert (d : List (TimerId × Tick)) : (s.setDueExpiries d).alert = s.alert := rfl
@[simp] theorem State.setDueExpiries_capture (d : List (TimerId × Tick)) : (s.setDueExpiries d).capture = s.capture := rfl
@[simp] theorem State.setDueExpiries_receiver (d : List (TimerId × Tick)) : (s.setDueExpiries d).receiver = s.receiver := rfl
@[simp] theorem State.setDueExpiries_dispatcher (d : List (TimerId × Tick)) : (s.setDueExpiries d).dispatcher = s.dispatcher := rfl
@[simp] theorem State.setDueExpiries_transmitter (d : List (TimerId × Tick)) : (s.setDueExpiries d).transmitter = s.transmitter := rfl
@[simp] theorem State.setDueExpiries_pending (d : List (TimerId × Tick)) : (s.setDueExpiries d).pending = s.pending := rfl

@[simp] theorem State.setSession_clock (d : Deliv) (v : Session) : (s.setSession d v).clock = s.clock := rfl
@[simp] theorem State.setSession_phase (d : Deliv) (v : Session) : (s.setSession d v).phase = s.phase := rfl
@[simp] theorem State.setSession_linkRate (d : Deliv) (v : Session) : (s.setSession d v).linkRate = s.linkRate := rfl
@[simp] theorem State.setSession_sources (d : Deliv) (v : Session) : (s.setSession d v).sources = s.sources := rfl
@[simp] theorem State.setSession_lines (d : Deliv) (v : Session) : (s.setSession d v).lines = s.lines := rfl
@[simp] theorem State.setSession_timeUnit (d : Deliv) (v : Session) : (s.setSession d v).timeUnit = s.timeUnit := rfl
@[simp] theorem State.setSession_alert (d : Deliv) (v : Session) : (s.setSession d v).alert = s.alert := rfl
@[simp] theorem State.setSession_capture (d : Deliv) (v : Session) : (s.setSession d v).capture = s.capture := rfl
@[simp] theorem State.setSession_receiver (d : Deliv) (v : Session) : (s.setSession d v).receiver = s.receiver := rfl
@[simp] theorem State.setSession_dispatcher (d : Deliv) (v : Session) : (s.setSession d v).dispatcher = s.dispatcher := rfl
@[simp] theorem State.setSession_transmitter (d : Deliv) (v : Session) : (s.setSession d v).transmitter = s.transmitter := rfl
@[simp] theorem State.setSession_pending (d : Deliv) (v : Session) : (s.setSession d v).pending = s.pending := rfl

@[simp] theorem State.setStallOwed_clock (d : Deliv) (b : Bool) : (s.setStallOwed d b).clock = s.clock := rfl
@[simp] theorem State.setStallOwed_phase (d : Deliv) (b : Bool) : (s.setStallOwed d b).phase = s.phase := rfl
@[simp] theorem State.setStallOwed_linkRate (d : Deliv) (b : Bool) : (s.setStallOwed d b).linkRate = s.linkRate := rfl
@[simp] theorem State.setStallOwed_sources (d : Deliv) (b : Bool) : (s.setStallOwed d b).sources = s.sources := rfl
@[simp] theorem State.setStallOwed_lines (d : Deliv) (b : Bool) : (s.setStallOwed d b).lines = s.lines := rfl
@[simp] theorem State.setStallOwed_timeUnit (d : Deliv) (b : Bool) : (s.setStallOwed d b).timeUnit = s.timeUnit := rfl
@[simp] theorem State.setStallOwed_sessions (d : Deliv) (b : Bool) : (s.setStallOwed d b).sessions = s.sessions := rfl
@[simp] theorem State.setStallOwed_alert (d : Deliv) (b : Bool) : (s.setStallOwed d b).alert = s.alert := rfl
@[simp] theorem State.setStallOwed_capture (d : Deliv) (b : Bool) : (s.setStallOwed d b).capture = s.capture := rfl
@[simp] theorem State.setStallOwed_receiver (d : Deliv) (b : Bool) : (s.setStallOwed d b).receiver = s.receiver := rfl
@[simp] theorem State.setStallOwed_dispatcher (d : Deliv) (b : Bool) : (s.setStallOwed d b).dispatcher = s.dispatcher := rfl
@[simp] theorem State.setStallOwed_pending (d : Deliv) (b : Bool) : (s.setStallOwed d b).pending = s.pending := rfl

@[simp] theorem State.reach_phase (t : Instant) : (s.reach t).phase = s.phase := rfl
@[simp] theorem State.reach_linkRate (t : Instant) : (s.reach t).linkRate = s.linkRate := rfl
@[simp] theorem State.reach_sources (t : Instant) : (s.reach t).sources = s.sources := rfl
@[simp] theorem State.reach_lines (t : Instant) : (s.reach t).lines = s.lines := rfl
@[simp] theorem State.reach_timeUnit (t : Instant) : (s.reach t).timeUnit = s.timeUnit := rfl
@[simp] theorem State.reach_sessions (t : Instant) : (s.reach t).sessions = s.sessions := rfl
@[simp] theorem State.reach_alert (t : Instant) : (s.reach t).alert = s.alert := rfl
@[simp] theorem State.reach_capture (t : Instant) : (s.reach t).capture = s.capture := rfl
@[simp] theorem State.reach_receiver (t : Instant) : (s.reach t).receiver = s.receiver := rfl
@[simp] theorem State.reach_dispatcher (t : Instant) : (s.reach t).dispatcher = s.dispatcher := rfl
@[simp] theorem State.reach_transmitter (t : Instant) : (s.reach t).transmitter = s.transmitter := rfl
@[simp] theorem State.reach_pending (t : Instant) : (s.reach t).pending = s.pending := rfl

@[simp] theorem State.setSource_sources (x : SourceId) (r : Source) : (s.setSource x r).sources = s.sources.set x r := rfl
@[simp] theorem State.setLine_lines (n : LineId) (l : Line) : (s.setLine n l).lines = s.lines.set n l := rfl
@[simp] theorem State.setSession_sessions (d : Deliv) (v : Session) : (s.setSession d v).sessions = s.sessions.set d v := rfl
@[simp] theorem State.reach_clock (t : Instant) : (s.reach t).clock = max s.clock t := rfl
@[simp] theorem State.setTimers_timers (ts : Vector Timer 8) : (s.setTimers ts).timeUnit.timers = ts := rfl
@[simp] theorem State.setTimers_counter (ts : Vector Timer 8) : (s.setTimers ts).timeUnit.counter = s.timeUnit.counter := rfl
@[simp] theorem State.setTimers_timeBase (ts : Vector Timer 8) : (s.setTimers ts).timeUnit.timeBase = s.timeUnit.timeBase := rfl
@[simp] theorem State.setTimers_nextTick (ts : Vector Timer 8) : (s.setTimers ts).timeUnit.nextTick = s.timeUnit.nextTick := rfl
@[simp] theorem State.setTimers_dueExpiries (ts : Vector Timer 8) :
    (s.setTimers ts).timeUnit.dueExpiries = s.timeUnit.dueExpiries := rfl

/-- What a source reads after one record is written. -/
@[simp] theorem State.source_setSource (x y : SourceId) (r : Source) :
    (s.setSource x r).source y = if x = y then r else s.source y := by
  simp [State.source, State.setSource, State.setSources, Vector.getElem_set, Fin.ext_iff]

/-- What a line reads after one record is written. -/
@[simp] theorem State.line_setLine (n m : LineId) (l : Line) :
    (s.setLine n l).line m = if n = m then l else s.line m := by
  simp [State.line, State.setLine, State.setLines, Vector.getElem_set, Fin.ext_iff]

/-- What a timer reads after one record is written. -/
@[simp] theorem State.timer_setTimer (k j : TimerId) (t : Timer) :
    (s.setTimer k t).timer j = if k = j then t else s.timer j := by
  simp [State.timer, State.setTimer, State.setTimers, State.setTimeUnit, Vector.getElem_set, Fin.ext_iff]

/-- What a session reads after one record is written. -/
@[simp] theorem State.session_setSession (d e : Deliv) (v : Session) :
    (s.setSession d v).session e = if d = e then v else s.session e := by
  simp [State.session, State.setSession, State.setSessions, Vector.getElem_set, Fin.ext_iff]

@[simp] theorem State.source_setClock (v : Instant) (x : SourceId) : (s.setClock v).source x = s.source x := rfl
@[simp] theorem State.source_setPhase (v : Phase) (x : SourceId) : (s.setPhase v).source x = s.source x := rfl
@[simp] theorem State.source_setLinkRate (v : LinkRate) (x : SourceId) : (s.setLinkRate v).source x = s.source x := rfl
@[simp] theorem State.source_setLines (v : Vector Line 24) (x : SourceId) : (s.setLines v).source x = s.source x := rfl
@[simp] theorem State.source_setTimeUnit (v : TimerUnit) (x : SourceId) : (s.setTimeUnit v).source x = s.source x := rfl
@[simp] theorem State.source_setSessions (v : Vector Session 4) (x : SourceId) : (s.setSessions v).source x = s.source x := rfl
@[simp] theorem State.source_setAlertBlock (v : Alert) (x : SourceId) : (s.setAlertBlock v).source x = s.source x := rfl
@[simp] theorem State.source_setCapture (v : Option Capture) (x : SourceId) : (s.setCapture v).source x = s.source x := rfl
@[simp] theorem State.source_setReceiver (v : Receiver) (x : SourceId) : (s.setReceiver v).source x = s.source x := rfl
@[simp] theorem State.source_setDispatcher (v : Dispatcher) (x : SourceId) : (s.setDispatcher v).source x = s.source x := rfl
@[simp] theorem State.source_setTransmitter (v : Transmitter) (x : SourceId) : (s.setTransmitter v).source x = s.source x := rfl
@[simp] theorem State.source_setPending (v : List Instr) (x : SourceId) : (s.setPending v).source x = s.source x := rfl
@[simp] theorem State.source_setLine (n : LineId) (l : Line) (x : SourceId) : (s.setLine n l).source x = s.source x := rfl
@[simp] theorem State.source_setTimers (ts : Vector Timer 8) (x : SourceId) : (s.setTimers ts).source x = s.source x := rfl
@[simp] theorem State.source_setTimer (k : TimerId) (t : Timer) (x : SourceId) : (s.setTimer k t).source x = s.source x := rfl
@[simp] theorem State.source_setDueExpiries (d : List (TimerId × Tick)) (x : SourceId) : (s.setDueExpiries d).source x = s.source x := rfl
@[simp] theorem State.source_setSession (d : Deliv) (v : Session) (x : SourceId) : (s.setSession d v).source x = s.source x := rfl
@[simp] theorem State.source_setStallOwed (d : Deliv) (b : Bool) (x : SourceId) : (s.setStallOwed d b).source x = s.source x := rfl
@[simp] theorem State.source_reach (t : Instant) (x : SourceId) : (s.reach t).source x = s.source x := rfl

@[simp] theorem State.line_setClock (v : Instant) (n : LineId) : (s.setClock v).line n = s.line n := rfl
@[simp] theorem State.line_setPhase (v : Phase) (n : LineId) : (s.setPhase v).line n = s.line n := rfl
@[simp] theorem State.line_setLinkRate (v : LinkRate) (n : LineId) : (s.setLinkRate v).line n = s.line n := rfl
@[simp] theorem State.line_setSources (v : Vector Source 32) (n : LineId) : (s.setSources v).line n = s.line n := rfl
@[simp] theorem State.line_setTimeUnit (v : TimerUnit) (n : LineId) : (s.setTimeUnit v).line n = s.line n := rfl
@[simp] theorem State.line_setSessions (v : Vector Session 4) (n : LineId) : (s.setSessions v).line n = s.line n := rfl
@[simp] theorem State.line_setAlertBlock (v : Alert) (n : LineId) : (s.setAlertBlock v).line n = s.line n := rfl
@[simp] theorem State.line_setCapture (v : Option Capture) (n : LineId) : (s.setCapture v).line n = s.line n := rfl
@[simp] theorem State.line_setReceiver (v : Receiver) (n : LineId) : (s.setReceiver v).line n = s.line n := rfl
@[simp] theorem State.line_setDispatcher (v : Dispatcher) (n : LineId) : (s.setDispatcher v).line n = s.line n := rfl
@[simp] theorem State.line_setTransmitter (v : Transmitter) (n : LineId) : (s.setTransmitter v).line n = s.line n := rfl
@[simp] theorem State.line_setPending (v : List Instr) (n : LineId) : (s.setPending v).line n = s.line n := rfl
@[simp] theorem State.line_setSource (x : SourceId) (r : Source) (n : LineId) : (s.setSource x r).line n = s.line n := rfl
@[simp] theorem State.line_setTimers (ts : Vector Timer 8) (n : LineId) : (s.setTimers ts).line n = s.line n := rfl
@[simp] theorem State.line_setTimer (k : TimerId) (t : Timer) (n : LineId) : (s.setTimer k t).line n = s.line n := rfl
@[simp] theorem State.line_setDueExpiries (d : List (TimerId × Tick)) (n : LineId) : (s.setDueExpiries d).line n = s.line n := rfl
@[simp] theorem State.line_setSession (d : Deliv) (v : Session) (n : LineId) : (s.setSession d v).line n = s.line n := rfl
@[simp] theorem State.line_setStallOwed (d : Deliv) (b : Bool) (n : LineId) : (s.setStallOwed d b).line n = s.line n := rfl
@[simp] theorem State.line_reach (t : Instant) (n : LineId) : (s.reach t).line n = s.line n := rfl

@[simp] theorem State.timer_setClock (v : Instant) (k : TimerId) : (s.setClock v).timer k = s.timer k := rfl
@[simp] theorem State.timer_setPhase (v : Phase) (k : TimerId) : (s.setPhase v).timer k = s.timer k := rfl
@[simp] theorem State.timer_setLinkRate (v : LinkRate) (k : TimerId) : (s.setLinkRate v).timer k = s.timer k := rfl
@[simp] theorem State.timer_setSources (v : Vector Source 32) (k : TimerId) : (s.setSources v).timer k = s.timer k := rfl
@[simp] theorem State.timer_setLines (v : Vector Line 24) (k : TimerId) : (s.setLines v).timer k = s.timer k := rfl
@[simp] theorem State.timer_setSessions (v : Vector Session 4) (k : TimerId) : (s.setSessions v).timer k = s.timer k := rfl
@[simp] theorem State.timer_setAlertBlock (v : Alert) (k : TimerId) : (s.setAlertBlock v).timer k = s.timer k := rfl
@[simp] theorem State.timer_setCapture (v : Option Capture) (k : TimerId) : (s.setCapture v).timer k = s.timer k := rfl
@[simp] theorem State.timer_setReceiver (v : Receiver) (k : TimerId) : (s.setReceiver v).timer k = s.timer k := rfl
@[simp] theorem State.timer_setDispatcher (v : Dispatcher) (k : TimerId) : (s.setDispatcher v).timer k = s.timer k := rfl
@[simp] theorem State.timer_setTransmitter (v : Transmitter) (k : TimerId) : (s.setTransmitter v).timer k = s.timer k := rfl
@[simp] theorem State.timer_setPending (v : List Instr) (k : TimerId) : (s.setPending v).timer k = s.timer k := rfl
@[simp] theorem State.timer_setSource (x : SourceId) (r : Source) (k : TimerId) : (s.setSource x r).timer k = s.timer k := rfl
@[simp] theorem State.timer_setLine (n : LineId) (l : Line) (k : TimerId) : (s.setLine n l).timer k = s.timer k := rfl
@[simp] theorem State.timer_setSession (d : Deliv) (v : Session) (k : TimerId) : (s.setSession d v).timer k = s.timer k := rfl
@[simp] theorem State.timer_setStallOwed (d : Deliv) (b : Bool) (k : TimerId) : (s.setStallOwed d b).timer k = s.timer k := rfl
@[simp] theorem State.timer_reach (t : Instant) (k : TimerId) : (s.reach t).timer k = s.timer k := rfl

@[simp] theorem State.session_setClock (v : Instant) (d : Deliv) : (s.setClock v).session d = s.session d := rfl
@[simp] theorem State.session_setPhase (v : Phase) (d : Deliv) : (s.setPhase v).session d = s.session d := rfl
@[simp] theorem State.session_setLinkRate (v : LinkRate) (d : Deliv) : (s.setLinkRate v).session d = s.session d := rfl
@[simp] theorem State.session_setSources (v : Vector Source 32) (d : Deliv) : (s.setSources v).session d = s.session d := rfl
@[simp] theorem State.session_setLines (v : Vector Line 24) (d : Deliv) : (s.setLines v).session d = s.session d := rfl
@[simp] theorem State.session_setTimeUnit (v : TimerUnit) (d : Deliv) : (s.setTimeUnit v).session d = s.session d := rfl
@[simp] theorem State.session_setAlertBlock (v : Alert) (d : Deliv) : (s.setAlertBlock v).session d = s.session d := rfl
@[simp] theorem State.session_setCapture (v : Option Capture) (d : Deliv) : (s.setCapture v).session d = s.session d := rfl
@[simp] theorem State.session_setReceiver (v : Receiver) (d : Deliv) : (s.setReceiver v).session d = s.session d := rfl
@[simp] theorem State.session_setDispatcher (v : Dispatcher) (d : Deliv) : (s.setDispatcher v).session d = s.session d := rfl
@[simp] theorem State.session_setTransmitter (v : Transmitter) (d : Deliv) : (s.setTransmitter v).session d = s.session d := rfl
@[simp] theorem State.session_setPending (v : List Instr) (d : Deliv) : (s.setPending v).session d = s.session d := rfl
@[simp] theorem State.session_setSource (x : SourceId) (r : Source) (d : Deliv) : (s.setSource x r).session d = s.session d := rfl
@[simp] theorem State.session_setLine (n : LineId) (l : Line) (d : Deliv) : (s.setLine n l).session d = s.session d := rfl
@[simp] theorem State.session_setTimers (ts : Vector Timer 8) (d : Deliv) : (s.setTimers ts).session d = s.session d := rfl
@[simp] theorem State.session_setTimer (k : TimerId) (t : Timer) (d : Deliv) : (s.setTimer k t).session d = s.session d := rfl
@[simp] theorem State.session_setDueExpiries (d : List (TimerId × Tick)) (i : Deliv) : (s.setDueExpiries d).session i = s.session i := rfl
@[simp] theorem State.session_setStallOwed (d : Deliv) (b : Bool) (i : Deliv) : (s.setStallOwed d b).session i = s.session i := rfl
@[simp] theorem State.session_reach (t : Instant) (d : Deliv) : (s.reach t).session d = s.session d := rfl

end Sys2Proof.Machine
end

