-- ==== Sys2Proof/Laws/Ops.lean ====
section
/-! SUPPORT. For each shared operation, what it can change and what it leaves: the provers cite these and do not unfold
the operation. -/

namespace Sys2Proof.Machine

/-! ## Line reads see lines alone -/

theorem State.isLevelType_congr {s t : State} (h : t.lines = s.lines) (x : SourceId) :
    t.isLevelType x = s.isLevelType x := by
  simp [State.isLevelType, State.line, h]

theorem State.isAsserted_congr {s t : State} (h : t.lines = s.lines) (x : SourceId) :
    t.isAsserted x = s.isAsserted x := by
  simp [State.isAsserted, State.line, h]

theorem State.source_congr {s t : State} (h : t.sources = s.sources) (x : SourceId) : t.source x = s.source x := by
  simp [State.source, h]

theorem State.session_congr {s t : State} (h : t.sessions = s.sessions) (d : Deliv) : t.session d = s.session d := by
  simp [State.session, h]

@[simp] theorem lineOf_lineSource (n : LineId) : lineOf (lineSource n) = some n := by
  simp [lineOf, lineSource]

@[simp] theorem lineOf_timerSource (k : TimerId) : lineOf (timerSource k) = none := by
  simp [lineOf, timerSource]

/-! ## Counted occurrences and GAP restarts -/

/-- A counted occurrence changes timer records alone. -/
theorem State.countedOccurrence_only (s : State) (x : SourceId) : ∃ ts, s.countedOccurrence x = s.setTimers ts := by
  unfold State.countedOccurrence
  split
  · exact ⟨_, rfl⟩
  · exact ⟨s.timeUnit.timers, rfl⟩

/-- A counted occurrence of a line's source restarts the GAP timers that watch it. -/
theorem State.countedOccurrence_timer (s : State) (n : LineId) (k : TimerId) :
    (s.countedOccurrence (lineSource n)).timer k = (s.timer k).heard n := by
  simp [State.countedOccurrence, State.timer, State.setTimers, State.setTimeUnit]

/-- A counted occurrence of a timer's source restarts no timer. -/
@[simp] theorem State.countedOccurrence_timerSource (s : State) (k : TimerId) :
    s.countedOccurrence (timerSource k) = s := by
  simp [State.countedOccurrence]

@[simp] theorem State.countedOccurrence_sources (s : State) (x : SourceId) :
    (s.countedOccurrence x).sources = s.sources := by
  obtain ⟨ts, h⟩ := s.countedOccurrence_only x
  rw [h, State.setTimers_sources]

@[simp] theorem State.countedOccurrence_source (s : State) (x y : SourceId) :
    (s.countedOccurrence x).source y = s.source y :=
  State.source_congr (s.countedOccurrence_sources x) y

/-! ## Occurrences -/

/-- R5: ignored under OFF, counted otherwise. -/
theorem State.takeOccurrence_cases (s : State) (x : SourceId) (t : Tick) :
    ((s.source x).admission = .off ∧ s.takeOccurrence x t = s) ∨
    ((s.source x).admission ≠ .off ∧
      s.takeOccurrence x t =
        (s.setSource x
          (if (s.source x).state = .idle then { (s.source x).addOccurrence t with state := .pending }
            else (s.source x).addOccurrence t)).countedOccurrence x) := by
  simp only [State.takeOccurrence]
  cases h : (s.source x).admission
  · exact .inl ⟨rfl, rfl⟩
  · exact .inr ⟨nofun, rfl⟩
  · exact .inr ⟨nofun, rfl⟩

/-- An occurrence changes source records and timer records alone. -/
theorem State.takeOccurrence_only (s : State) (x : SourceId) (t : Tick) :
    ∃ src ts, s.takeOccurrence x t = (s.setSources src).setTimers ts := by
  obtain ⟨_, h⟩ | ⟨_, h⟩ := s.takeOccurrence_cases x t
  · exact ⟨s.sources, s.timeUnit.timers, h⟩
  · obtain ⟨ts, h'⟩ := State.countedOccurrence_only
      (s.setSource x
        (if (s.source x).state = .idle then { (s.source x).addOccurrence t with state := .pending }
          else (s.source x).addOccurrence t)) x
    exact ⟨_, ts, h.trans h'⟩

/-- R6: an assertion raises an IDLE source whose admission is not OFF and changes nothing else. -/
theorem State.takeAssertion_cases (s : State) (x : SourceId) :
    ((s.source x).state = .idle ∧ (s.source x).admission ≠ .off ∧
      s.takeAssertion x =
        (s.setSource x { s.source x with
          state := .pending, count := 1, firstTime := some s.now, lastTime := some s.now }).countedOccurrence x) ∨
    (¬((s.source x).state = .idle ∧ (s.source x).admission ≠ .off) ∧ s.takeAssertion x = s) := by
  unfold State.takeAssertion
  by_cases h : (s.source x).state = .idle ∧ (s.source x).admission ≠ .off
  · exact .inl ⟨h.1, h.2, by simp [h]⟩
  · exact .inr ⟨h, by simp only [if_neg h]⟩

/-- An assertion changes source records and timer records alone. -/
theorem State.takeAssertion_only (s : State) (x : SourceId) :
    ∃ src ts, s.takeAssertion x = (s.setSources src).setTimers ts := by
  obtain ⟨_, _, h⟩ | ⟨_, h⟩ := s.takeAssertion_cases x
  · obtain ⟨ts, h'⟩ := State.countedOccurrence_only
      (s.setSource x { s.source x with
        state := .pending, count := 1, firstTime := some s.now, lastTime := some s.now }) x
    exact ⟨_, ts, h.trans h'⟩
  · exact ⟨s.sources, s.timeUnit.timers, h⟩

/-- R7: a deassertion withdraws a PENDING source and changes nothing else. -/
theorem State.takeDeassertion_cases (s : State) (x : SourceId) :
    ((s.source x).state = .pending ∧
      s.takeDeassertion x = s.setSource x { (s.source x).emptied with state := .idle }) ∨
    ((s.source x).state ≠ .pending ∧ s.takeDeassertion x = s) := by
  unfold State.takeDeassertion
  by_cases h : (s.source x).state = .pending
  · exact .inl ⟨h, by simp [h]⟩
  · exact .inr ⟨h, by simp [h]⟩

/-- A deassertion changes source records alone. -/
theorem State.takeDeassertion_only (s : State) (x : SourceId) : ∃ src, s.takeDeassertion x = s.setSources src := by
  obtain ⟨_, h⟩ | ⟨_, h⟩ := s.takeDeassertion_cases x
  · exact ⟨_, h⟩
  · exact ⟨s.sources, h⟩

/-- A report changes source records and timer records alone. -/
theorem State.takeReport_only (s : State) (n : LineId) (r : Report) :
    ∃ src ts, s.takeReport n r = (s.setSources src).setTimers ts := by
  cases r with
  | occurrence => exact s.takeOccurrence_only _ _
  | assertion => exact s.takeAssertion_only _
  | deassertion =>
    obtain ⟨src, h⟩ := s.takeDeassertion_only (lineSource n)
    exact ⟨src, s.timeUnit.timers, h⟩
  | nothing => exact ⟨s.sources, s.timeUnit.timers, rfl⟩

/-- A write of one source's record is a write of the source records. -/
theorem State.setSource_only (s : State) (x : SourceId) (v : Source) :
    s.setSource x v = (s.setSources (s.sources.set x v)).setTimers s.timeUnit.timers := rfl

/-- SET_ADMIT's effect changes source records and timer records alone. -/
theorem State.changeAdmission_only (s : State) (x : SourceId) (a : Admission) :
    ∃ src ts, s.changeAdmission x a = (s.setSources src).setTimers ts := by
  unfold State.changeAdmission
  dsimp only
  split
  · exact ⟨s.sources, s.timeUnit.timers, rfl⟩
  · split
    · exact ⟨_, _, (State.countedOccurrence_only _ x).choose_spec⟩
    · exact ⟨_, _, s.setSource_only x _⟩
  · exact ⟨_, _, s.setSource_only x _⟩
  · exact ⟨_, _, s.setSource_only x _⟩

/-! ## Coming home -/

/-- A merge writes the one source of the offer. -/
theorem State.merge_source (s : State) (o : Offer) (y : SourceId) :
    (s.merge o).source y =
      if o.source = y then (s.source y).merged o (s.isLevelType y) (s.isAsserted y) else s.source y := by
  unfold State.merge
  by_cases h : o.source = y <;> simp [h]

/-- The post-completion rule writes the one source. -/
theorem State.complete_source (s : State) (x y : SourceId) :
    (s.complete x).source y =
      if x = y then (s.source y).completed (s.isLevelType y) (s.isAsserted y) s.now else s.source y := by
  unfold State.complete
  by_cases h : x = y <;> simp [h]

/-- Merges change source records alone. -/
theorem State.mergeAll_only (s : State) (os : List Offer) : ∃ src, s.mergeAll os = s.setSources src := by
  induction os generalizing s with
  | nil => exact ⟨s.sources, rfl⟩
  | cons o os ih =>
    obtain ⟨src, h⟩ := ih (s.merge o)
    exact ⟨src, h⟩

/-- Abandonments change source records alone. -/
theorem State.completeAll_only (s : State) (es : List Entry) : ∃ src, s.completeAll es = s.setSources src := by
  induction es generalizing s with
  | nil => exact ⟨s.sources, rfl⟩
  | cons e es ih =>
    obtain ⟨src, h⟩ := ih (s.complete e.source)
    exact ⟨src, h⟩

/-- The hold of a RETURN changes source records alone. -/
theorem State.holdReturned_only (s : State) (x : SourceId) (n : Nat) : ∃ src, s.holdReturned x n = s.setSources src := by
  unfold State.holdReturned
  dsimp only
  split
  · exact ⟨_, rfl⟩
  · split
    · exact ⟨s.sources, rfl⟩
    · exact ⟨_, rfl⟩

/-- The stall changes sources, sessions and the STALL flags alone. -/
theorem State.stallSession_only (s : State) (d : Deliv) (p : Params) (dn : Byte) :
    ∃ src, s.stallSession d p dn =
      ((s.setSources src).setSession d { s.session d with
        status := .stalled p, offers := []
        stall := (s.session d).stall.written dn ((s.session d).offers.map Offer.source) }).setStallOwed d true := by
  obtain ⟨src, h⟩ := s.mergeAll_only (s.session d).offers
  exact ⟨src, by simp only [State.stallSession, h]⟩

/-! ## The alert output -/

/-- The pin after a judgement (R100): high exactly when enabled, the condition holds and no gap runs after it. -/
theorem Alert.judge_pin (a : Alert) (c : Instant) (b t : Vector Source 32) :
    (a.judge c b t).pin = (a.enabled && (a.judge c b t).gap.isNone && urgent t) ∨
      (a.enabled = false ∧ (a.judge c b t).pin = false) := by
  unfold Alert.judge
  cases h : a.enabled
  · exact .inr ⟨rfl, by simp⟩
  · refine .inl ?_
    by_cases hg : a.gap.isSome = true
    · simp [hg, Option.isNone_iff_eq_none, Option.isSome_iff_ne_none.mp hg]
    · have hn : a.gap = none := by simpa using hg
      by_cases hu : urgent t = true
      · by_cases hj : (a.mode == .renew && a.pin && joinsPending b t) = true
        · simp only [hn, hu]; simp [hj]
        · simp only [hn, hu]; simp [hj]
      · simp [hn, hu]

/-- A judgement keeps the settings (R98). -/
theorem Alert.judge_settings (a : Alert) (c : Instant) (b t : Vector Source 32) :
    (a.judge c b t).enabled = a.enabled ∧ (a.judge c b t).mode = a.mode := by
  unfold Alert.judge
  repeat' split
  all_goals exact ⟨rfl, rfl⟩

/-! ## Expiries and ticks -/

/-- An expiry changes sources, timers and the alert output alone. -/
theorem State.takeExpiry_only (s : State) (e : TimerId × Tick) :
    ∃ src a, s.takeExpiry e = (s.setSources src).setAlertBlock a := by
  unfold State.takeExpiry State.judged
  obtain ⟨_, h⟩ | ⟨_, h⟩ := s.takeOccurrence_cases (timerSource e.1) e.2
  · rw [h]; exact ⟨s.sources, _, rfl⟩
  · rw [h, State.countedOccurrence_timerSource]; exact ⟨_, _, rfl⟩

/-- Expiries taken one after the other change sources and the alert output alone. -/
theorem State.takeExpiries_only (s : State) (es : List (TimerId × Tick)) :
    ∃ src a, s.takeExpiries es = (s.setSources src).setAlertBlock a := by
  induction es generalizing s with
  | nil => exact ⟨s.sources, s.alert, rfl⟩
  | cons e es ih =>
    obtain ⟨src, a, h⟩ := s.takeExpiry_only e
    obtain ⟨src', a', h'⟩ := ih (s.takeExpiry e)
    exact ⟨src', a', by rw [State.takeExpiries, List.foldl_cons, ← State.takeExpiries, h', h]; rfl⟩

/-- The counted occurrence of an admitted source is that of the statements (R4, R5). -/
theorem Source.occurrenceTaken_eq (r : Source) (t : Tick) (h : r.admission ≠ .off) :
    r.occurrenceTaken t =
      if r.state = .idle then { r.addOccurrence t with state := .pending } else r.addOccurrence t := by
  have hc : saturatingSucc 65535 r.count = min 65535 (r.count + 1) := by simp only [saturatingSucc]; split <;> omega
  have hs : decide (65535 ≤ r.count) = !decide (r.count < 65535) := by
    by_cases q : r.count < 65535 <;> simp [q]; omega
  have hf : (r.firstTime <|> some t) = some (r.firstTime.getD t) := by cases r.firstTime <;> rfl
  rw [Source.occurrenceTaken, if_neg h]
  split <;> simp [Source.addOccurrence, Config.countLimit, *] <;> rfl

/-- Writing a record as it stands changes nothing. -/
theorem State.setSource_source (s : State) (x : SourceId) : s.setSource x (s.source x) = s := by
  simp only [State.setSource, State.source, State.setSources, Fin.getElem_fin, Vector.set_getElem_self]

/-- An expiry as the source table takes it is that of the statements (R130). -/
theorem State.takeExpiry_eq (s : State) (e : TimerId × Tick) : s.takeExpiry e = s.expiryTaken e := by
  unfold State.takeExpiry State.expiryTaken
  obtain ⟨h, h'⟩ | ⟨h, h'⟩ := s.takeOccurrence_cases (timerSource e.1) e.2
  · rw [h', Source.occurrenceTaken, if_pos h, State.setSource_source]
  · rw [h', State.countedOccurrence_timerSource, ← Source.occurrenceTaken_eq _ _ h]

/-- The same of expiries taken one after the other (R132). -/
theorem State.takeExpiries_eq (s : State) (es : List (TimerId × Tick)) : s.takeExpiries es = s.expiriesTaken es := by
  induction es generalizing s with
  | nil => rfl
  | cons e es ih => exact (ih _).trans (congrArg (fun t => State.expiriesTaken t es) (s.takeExpiry_eq e))

/-- The same of the expiries that wait (log entry 4). -/
theorem State.flushExpiries_eq (s : State) : s.flushExpiries = s.waitingTaken := State.takeExpiries_eq _ _

/-- A tick's step of a timer record, and whether it expires, are those of the statements (R127, R129, R131). -/
theorem Timer.stepped_eq (t : Timer) : t.stepped = (t.ticked, t.expiresAtTick) := by
  rcases t with ⟨m, p, q, r, st, w⟩
  cases st <;> simp [Timer.ticked, Timer.stepped, Timer.expiresAtTick]
  by_cases h : r ≤ 1
  · cases m <;> cases q <;> simp [h, Timer.afterExpiry, Timer.started, Timer.load, Timer.restarted, Nat.not_lt.mpr h]
  · simp [h, Nat.lt_of_not_le h]

/-- A start bit changes nothing but the gap timer (R158). -/
@[simp] theorem State.takeStartBit_framing (s : State) : s.takeStartBit.receiver.framing = s.receiver.framing := rfl

@[simp] theorem State.takeStartBit_gapTimer (s : State) : s.takeStartBit.receiver.gapTimer = none := rfl

@[simp] theorem State.takeStartBit_slots (s : State) : s.takeStartBit.receiver.slots = s.receiver.slots := rfl

@[simp] theorem State.takeStartBit_transmitter (s : State) : s.takeStartBit.transmitter = s.transmitter := rfl

/-! ## Requests -/

/-- A TYPE code names its own request (R171). -/
@[simp] theorem Request.ofCode_code (r : Request) : Request.ofCode r.code = some r := by cases r <;> rfl

/-- A code that names a request is that request's code (R171). -/
theorem Request.code_ofCode {b : Byte} {r : Request} (h : Request.ofCode b = some r) : r.code = b := by
  unfold Request.ofCode at h
  split at h <;> first | (cases h; apply BitVec.eq_of_toNat_eq; simp [Request.code, *]) | cases h

/-- The row of each request type and the general reception of frames have the same owner. -/
@[simp] theorem ownerOfCode_code (r : Request) : ownerOfCode r.code = r.owner := by
  simp [ownerOfCode]

/-- A good frame while the part is held in reset is not read (R168). -/
theorem State.goodFrame_held (s : State) (owner : Owner) (f : ReqFrame) (h : s.isRunning = false) :
    s.goodFrame owner f = s := by
  simp [State.goodFrame, h]

/-- A good frame with no free slot is an overrun (R159). -/
theorem State.goodFrame_overrun (s : State) (owner : Owner) (f : ReqFrame) (h : s.isRunning = true)
    (hs : s.freeSlot = none) : s.goodFrame owner f = s.hunt.takeOverrun f.sess f.tag := by
  have : s.hunt.freeSlot = none := hs
  simp [State.goodFrame, h, this]

/-- A good frame while the dispatcher is RESET_PENDING claims a slot and waits (R183). -/
theorem State.goodFrame_waits (s : State) (owner : Owner) (f : ReqFrame) (slot : SlotId) (scope : Scope)
    (h : s.isRunning = true) (hs : s.freeSlot = some slot) (hp : s.dispatcher.pendingReset = some scope) :
    s.goodFrame owner f = s.hunt.claimSlot slot f := by
  have h1 : s.hunt.freeSlot = some slot := hs
  have h2 : (s.hunt.claimSlot slot f).dispatcher.pendingReset = some scope := hp
  simp [State.goodFrame, h, h1, h2]

/-- A good frame while the dispatcher is NORMAL is executed in the slot it claims (R174). -/
theorem State.goodFrame_executes (s : State) (owner : Owner) (f : ReqFrame) (slot : SlotId) (h : s.isRunning = true)
    (hs : s.freeSlot = some slot) (hp : s.dispatcher.pendingReset = none) :
    s.goodFrame owner f = (s.hunt.claimSlot slot f).execute owner slot f := by
  have h1 : s.hunt.freeSlot = some slot := hs
  have h2 : (s.hunt.claimSlot slot f).dispatcher.pendingReset = none := hp
  simp [State.goodFrame, h, h1, h2]

/-- Execution of a request whose session is known and whose cache does not match (R176, R179). -/
theorem State.execute_fresh (s : State) (owner : Owner) (slot : SlotId) (f : ReqFrame) (σ : SessId)
    (hσ : f.sess.toNat = σ.val) (hc : s.cachedAnswer σ f.type f.tag = none) :
    s.execute owner slot f = (answerOf owner σ f.type f.payload s).place slot σ f := by
  have hlt : f.sess.toNat < 5 := hσ ▸ σ.isLt
  have hσ' : (⟨f.sess.toNat, hlt⟩ : SessId) = σ := Fin.ext hσ
  simp only [State.execute, hlt, ↓reduceDIte, hσ', hc]

/-- A request that passes steps 2 to 4 reaches its owner (R176). -/
theorem answerOf_owner (owner : Owner) (σ : SessId) (r : Request) (payload : List Byte) (s : State)
    (ha : r.allowedOn σ = true) (hl : payload.length = r.payloadLen) :
    answerOf owner σ r.code payload s = owner σ payload s := by
  simp [answerOf, headerRefusal, ha, hl]

/-- What placing an answer leaves of the blocks the answer's owner wrote (R174, R179). -/
theorem Answer.place_blocks (a : Answer) (slot : SlotId) (σ : SessId) (f : ReqFrame) :
    (a.place slot σ f).sources = a.next.sources ∧ (a.place slot σ f).lines = a.next.lines ∧
    (a.place slot σ f).timeUnit = a.next.timeUnit ∧ (a.place slot σ f).sessions = a.next.sessions ∧
    (a.place slot σ f).alert = a.next.alert ∧ (a.place slot σ f).capture = a.next.capture ∧
    (a.place slot σ f).clock = a.next.clock ∧ (a.place slot σ f).phase = a.next.phase ∧
    (a.place slot σ f).pending = a.next.pending :=
  ⟨rfl, rfl, rfl, rfl, rfl, rfl, rfl, rfl, rfl⟩

/-! ## Frames -/

/-- A frame's start writes the frame in transmission alone (R166). -/
theorem State.startFrame_only (s : State) (kind : TxKind) (sess type tag : Byte) (payload : List Byte) :
    s.startFrame kind sess type tag payload = s.setTransmitter { s.transmitter with
      frame := some { kind := kind, bytes := partFrame sess type tag (byteOf s.credit) payload } } := rfl

/-- A poll that finds a frame starts that session's EVT frame; one that finds none changes nothing (R165). -/
theorem State.poll_cases (s : State) (ds : List Deliv) :
    (s.poll ds = s ∧ ∀ d ∈ ds, s.pollAnswer d = none) ∨
    ∃ d ∈ ds, ∃ o s', s.pollAnswer d = some (o, s') ∧ s.poll ds = s'.startEvt d o := by
  induction ds with
  | nil => exact .inl ⟨rfl, by simp⟩
  | cons d ds ih =>
    cases h : s.pollAnswer d with
    | some os => exact .inr ⟨d, by simp, os.1, os.2, h, by simp [State.poll, h]⟩
    | none =>
      have hp : s.poll (d :: ds) = s.poll ds := by simp [State.poll, h]
      obtain ⟨he, hn⟩ | ⟨e, he, o, s', ha, hs⟩ := ih
      · exact .inl ⟨hp.trans he, by simpa [h] using hn⟩
      · exact .inr ⟨e, by simp [he], o, s', ha, hp.trans hs⟩

end Sys2Proof.Machine
end

