-- ==== Sys2Proof/Laws/Requests.lean ====
section
/-! SUPPORT. A request that is executed: the owners neither read nor write the receiver, so that the whole command is the
owner's answer on the state the request found, with the reply placed. -/

namespace Sys2Proof.Machine

/-- The answer with another receiver in the state it leaves. -/
def Answer.withReceiver (a : Answer) (v : Receiver) : Answer := { a with next := a.next.setReceiver v }

variable (s : State) (v : Receiver)

/-! ## The shared operations -/

/-- An `if` on each side of a map, branch by branch. -/
theorem ite_eq_map {α β : Type} {c c' : Prop} [Decidable c] [Decidable c'] {a b : α} {a' b' : β} (f : α → β)
    (hc : c' ↔ c) (ha : a' = f a) (hb : b' = f b) : (if c' then a' else b') = f (if c then a else b) := by
  by_cases h : c
  · rw [if_pos h, if_pos (hc.mpr h), ha]
  · rw [if_neg h, if_neg (h ∘ hc.mp), hb]

theorem State.countedOccurrence_setReceiver (x : SourceId) :
    (s.setReceiver v).countedOccurrence x = (s.countedOccurrence x).setReceiver v := by
  unfold State.countedOccurrence
  split <;> rfl

theorem State.takeOccurrence_setReceiver (x : SourceId) (t : Tick) :
    (s.setReceiver v).takeOccurrence x t = (s.takeOccurrence x t).setReceiver v := by
  obtain ⟨h, e⟩ | ⟨h, e⟩ := s.takeOccurrence_cases x t
  · obtain ⟨_, e'⟩ | ⟨h', _⟩ := (s.setReceiver v).takeOccurrence_cases x t
    · rw [e, e']
    · exact absurd h h'
  · obtain ⟨h', _⟩ | ⟨_, e'⟩ := (s.setReceiver v).takeOccurrence_cases x t
    · exact absurd h' h
    · rw [e, e', ← State.countedOccurrence_setReceiver]
      rfl

theorem State.changeAdmission_setReceiver (x : SourceId) (a : Admission) :
    (s.setReceiver v).changeAdmission x a = (s.changeAdmission x a).setReceiver v := by
  simp only [State.changeAdmission, State.source_setReceiver]
  split
  · rfl
  · refine ite_eq_map (fun t : State => t.setReceiver v) Iff.rfl ?_ rfl
    simp only [← State.countedOccurrence_setReceiver]
    rfl
  · rfl
  · rfl

theorem State.mergeAll_setReceiver (os : List Offer) :
    (s.setReceiver v).mergeAll os = (s.mergeAll os).setReceiver v := by
  induction os generalizing s with
  | nil => rfl
  | cons o os ih => exact ih (s.merge o)

theorem State.completeAll_setReceiver (es : List Entry) :
    (s.setReceiver v).completeAll es = (s.completeAll es).setReceiver v := by
  induction es generalizing s with
  | nil => rfl
  | cons e es ih => exact ih (s.complete e.source)

theorem State.holdReturned_setReceiver (x : SourceId) (n : Nat) :
    (s.setReceiver v).holdReturned x n = (s.holdReturned x n).setReceiver v :=
  ite_eq_map (fun t : State => t.setReceiver v) Iff.rfl rfl
    (ite_eq_map (fun t : State => t.setReceiver v) Iff.rfl rfl rfl)

theorem State.takeExpiry_setReceiver (e : TimerId × Tick) :
    (s.setReceiver v).takeExpiry e = (s.takeExpiry e).setReceiver v := by
  simp only [State.takeExpiry, State.takeOccurrence_setReceiver]
  rfl

theorem State.takeExpiries_setReceiver (es : List (TimerId × Tick)) :
    (s.setReceiver v).takeExpiries es = (s.takeExpiries es).setReceiver v := by
  induction es generalizing s with
  | nil => rfl
  | cons e es ih =>
    simp only [State.takeExpiries, List.foldl_cons] at ih ⊢
    rw [State.takeExpiry_setReceiver, ih]

theorem State.flushExpiries_setReceiver :
    (s.setReceiver v).flushExpiries = s.flushExpiries.setReceiver v :=
  State.takeExpiries_setReceiver (s.setDueExpiries []) v _

theorem State.releaseOwned_setReceiver (d : Deliv) :
    (s.setReceiver v).releaseOwned d = (s.releaseOwned d).setReceiver v := by
  simp only [State.releaseOwned, State.setReceiver_capture]
  split
  · exact ite_eq_map (fun t : State => t.setReceiver v) Iff.rfl rfl rfl
  · rfl

theorem State.closeSession_setReceiver (d : Deliv) :
    (s.setReceiver v).closeSession d = (s.closeSession d).setReceiver v := by
  simp only [State.closeSession, State.session_setReceiver, State.mergeAll_setReceiver, State.completeAll_setReceiver,
    ← State.releaseOwned_setReceiver]
  rfl

theorem closeContents_setReceiver (d : Deliv) : closeContents (s.setReceiver v) d = closeContents s d := by
  simp only [closeContents, State.session_setReceiver, State.mergeAll_setReceiver, State.completeAll_setReceiver,
    handledContents, State.source_setReceiver]

theorem State.acceptOffer_setReceiver (d : Deliv) (o : Offer) :
    (s.setReceiver v).acceptOffer d o = (s.acceptOffer d o).setReceiver v := by
  simp only [State.acceptOffer, State.source_setReceiver]
  split <;> rfl

/-! ## The owners -/

/-- No owner reads or writes the receiver. -/
theorem Request.owner_setReceiver (r : Request) (σ : SessId) (payload : List Byte) :
    r.owner σ payload (s.setReceiver v) = (r.owner σ payload s).withReceiver v := by
  have hj : ∀ a b : State, ((a.setReceiver v).judged (b.setReceiver v)) = (a.judged b).setReceiver v := fun _ _ => rfl
  have hi : ∀ {c c' : Prop} [Decidable c] [Decidable c'] {a b a' b' : Answer}, (c' ↔ c) → a' = a.withReceiver v →
      b' = b.withReceiver v → (if c' then a' else b') = (if c then a else b).withReceiver v :=
    fun hc ha hb => ite_eq_map (fun a : Answer => a.withReceiver v) hc ha hb
  cases r
  case configSource =>
    simp only [Request.owner, ownConfigSource]
    split
    · rfl
    · exact hi Iff.rfl rfl rfl
  case setAdmission =>
    simp only [Request.owner, ownSetAdmission, State.changeAdmission_setReceiver, hj]
    split <;> rfl
  case configLine =>
    simp only [Request.owner, ownConfigLine]
    split
    · rfl
    · exact hi Iff.rfl rfl rfl
  case configTimer =>
    simp only [Request.owner, ownConfigTimer]
    split
    · rfl
    · exact hi Iff.rfl rfl (hi Iff.rfl rfl rfl)
  case startTimer => simp only [Request.owner, ownStartTimer]; split <;> rfl
  case stopTimer => simp only [Request.owner, ownStopTimer]; split <;> rfl
  case setTimebase =>
    simp only [Request.owner, ownSetTimebase]
    split
    · rfl
    · exact hi Iff.rfl rfl rfl
  case setAlert => simp only [Request.owner, ownSetAlert]; split <;> rfl
  case reset => simp only [Request.owner, ownReset]; split <;> rfl
  case querySource => simp only [Request.owner, ownQuerySource]; split <;> rfl
  case queryLines => rfl
  case queryTimer => simp only [Request.owner, ownQueryTimer]; split <;> rfl
  case readTime => rfl
  case querySession => simp only [Request.owner, ownQuerySession]; split <;> rfl
  case snapshot =>
    simp only [Request.owner, ownSnapshot, State.setReceiver_capture, State.flushExpiries_setReceiver]
    split <;> rfl
  case readCapture =>
    simp only [Request.owner, ownReadCapture, State.setReceiver_capture]
    split
    · rfl
    · split
      · rfl
      · exact hi Iff.rfl rfl rfl
  case discardCapture =>
    simp only [Request.owner, ownDiscardCapture, State.setReceiver_capture]
    split
    · rfl
    · exact hi Iff.rfl rfl rfl
  case openSession =>
    simp only [Request.owner, ownOpen, onDelivery, State.session_setReceiver]
    repeat' split
    all_goals rfl
  case close =>
    simp only [Request.owner, ownClose, onDelivery, State.session_setReceiver, closeContents_setReceiver,
      State.closeSession_setReceiver, hj]
    repeat' split
    all_goals rfl
  case setSession =>
    simp only [Request.owner, ownSetSession, onDelivery]
    split
    · rename_i d _
      split
      · rfl
      · have e : ((s.setReceiver v).session d).status = (s.session d).status := rfl
        rw [e]
        split
        · rfl
        · exact hi Iff.rfl rfl rfl
        · exact hi Iff.rfl rfl rfl
    · rfl
  case resume =>
    simp only [Request.owner, ownResume, onDelivery, State.session_setReceiver]
    repeat' split
    all_goals rfl
  case accept =>
    simp only [Request.owner, ownAccept, onDelivery, State.session_setReceiver, State.acceptOffer_setReceiver, hj]
    repeat' split
    all_goals rfl
  case returnOffer =>
    have hg : ∀ d o n, (s.setReceiver v).giveBack d o n = (s.giveBack d o n).setReceiver v := fun d o n =>
      State.holdReturned_setReceiver ((s.setSession d ((s.session d).withoutOffer o.dn)).merge o) v o.source n
    simp only [Request.owner, ownReturn, onDelivery, State.session_setReceiver, hg, hj]
    repeat' split
    all_goals rfl
  case done =>
    simp only [Request.owner, ownDone, onDelivery]
    split
    · rename_i d _
      split
      · rfl
      · have e : ((s.setReceiver v).session d).status = (s.session d).status := rfl
        rw [e]
        split
        · rfl
        · exact hi Iff.rfl rfl rfl
        · exact hi Iff.rfl rfl rfl
    · rfl
  case doneTop =>
    have hf : ∀ d x, (s.setReceiver v).finishTop d x = (s.finishTop d x).setReceiver v := fun _ _ => rfl
    simp only [Request.owner, ownDoneTop, onDelivery, State.session_setReceiver, hf, hj]
    repeat' split
    all_goals rfl

/-- An owner leaves the receiver as it found it. -/
theorem Request.owner_receiver (r : Request) (σ : SessId) (payload : List Byte) :
    (r.owner σ payload s).next.receiver = s.receiver := by
  have h := Request.owner_setReceiver s s.receiver r σ payload
  rw [show s.setReceiver s.receiver = s from rfl] at h
  rw [h]
  rfl

/-! ## The command -/

/-- The command of a request type is the good frame of its code (R159, R171). -/
theorem Request.exec_command (r : Request) (sess tag : Byte) (payload : List Byte) :
    exec (r.command sess tag payload) s =
      .next (s.goodFrame r.owner { sess := sess, type := r.code, tag := tag, payload := payload }) := by
  cases r <;> rfl

/-- The lowest free slot is the one a good frame claims. -/
theorem State.freeSlot_of_canReceive {s : State} {slot : SlotId} (h : s.canReceive slot) : s.freeSlot = some slot := by
  obtain ⟨-, -, hf, hl⟩ := h
  unfold State.freeSlot
  rw [List.find?_eq_some_iff_getElem]
  refine ⟨by simpa [State.slotFree] using hf, slot.val, by simp, by simp, ?_⟩
  intro j hj
  have := hl ⟨j, by omega⟩ hj
  simpa [State.slotFree] using this

/-- A request that is executed and passes steps 2 to 4 of R176: its owner's answer on the state it found, with the reply
placed (R159, R174, R176, R179). -/
theorem Request.exec_taken {s : State} {slot : SlotId} (r : Request) (σ : SessId) (tag : Byte) (payload : List Byte)
    (h : s.canTake σ r.code tag slot) (ha : r.allowedOn σ = true) (hl : payload.length = r.payloadLen) :
    exec (r.command (byteOf σ.val) tag payload) s =
      .next ((r.owner σ payload s).next.answered slot σ r.code tag (r.owner σ payload s).status
        (r.owner σ payload s).contents (r.owner σ payload s).startsReset) := by
  have hb : (byteOf σ.val).toNat = σ.val := by
    have := σ.isLt
    simp only [byteOf, BitVec.toNat_ofNat]
    omega
  have hc : s.cachedAnswer σ r.code tag = none := by
    unfold State.cachedAnswer
    rw [Option.filter_eq_none_iff]
    intro c hc
    have := h.2 c hc
    simpa [and_comm] using this
  have hrun : s.isRunning = true := by simp [State.isRunning, h.1.1]
  rw [Request.exec_command,
    State.goodFrame_executes s _ _ slot hrun (State.freeSlot_of_canReceive h.1) h.1.2.1]
  rw [State.execute_fresh _ _ _ _ σ hb (by exact hc)]
  rw [answerOf_owner _ _ _ _ _ ha hl]
  have hclaim : s.hunt.claimSlot slot { sess := byteOf σ.val, type := r.code, tag := tag, payload := payload } =
      s.setReceiver (s.hunt.claimSlot slot
        { sess := byteOf σ.val, type := r.code, tag := tag, payload := payload }).receiver := rfl
  rw [hclaim, Request.owner_setReceiver]
  have hrec := Request.owner_receiver s r σ payload
  simp only [Answer.place, State.queueReply, State.fillCache, Answer.withReceiver, State.answered, State.replied,
    State.setSlot, State.claimSlot, State.hunt, State.setReceiver, State.setTransmitter, State.setDispatcher, hrec,
    Vector.set_set]

end Sys2Proof.Machine
end

