-- ==== Sys2Proof/Laws/Operands.lean ====
section
/-! SUPPORT. What a payload's reader makes of the bytes that write a value: it gives the value back. -/

namespace Sys2Proof.Machine

@[simp] theorem byteOf_toNat (n : Nat) : (byteOf n).toNat = n % 256 := by simp [byteOf]

/-- A field reads back the number written in it. -/
theorem fieldBelow_byteOf {n : Nat} (x : Fin n) (h : n ≤ 256) : fieldBelow n (byteOf x.val) = some x := by
  have hx := x.isLt
  have e : (byteOf x.val).toNat = x.val := by rw [byteOf_toNat]; omega
  simp only [fieldBelow, e, hx, ↓reduceDIte]

@[simp] theorem fieldBelow_source (x : SourceId) : fieldBelow 32 (byteOf x.val) = some x := fieldBelow_byteOf x (by omega)
@[simp] theorem fieldBelow_line (n : LineId) : fieldBelow 24 (byteOf n.val) = some n := fieldBelow_byteOf n (by omega)
@[simp] theorem fieldBelow_timer (k : TimerId) : fieldBelow 8 (byteOf k.val) = some k := fieldBelow_byteOf k (by omega)
@[simp] theorem fieldBelow_priority (p : Priority) : fieldBelow 16 (byteOf p.val) = some p :=
  fieldBelow_byteOf p (by omega)
@[simp] theorem fieldBelow_page (p : Fin 4) : fieldBelow 4 (byteOf p.val) = some p := fieldBelow_byteOf p (by omega)
@[simp] theorem routeField_delivByte (r : Option Deliv) : routeField (delivByte r) = some r := by revert r; decide
@[simp] theorem completionField_code (c : Completion) : completionField c.code = some c := by cases c <;> rfl
@[simp] theorem admissionField_code (a : Admission) : admissionField a.code = some a := by cases a <;> rfl
@[simp] theorem senseField_code (e : Sense) : senseField e.code = some e := by cases e <;> rfl
@[simp] theorem timerModeField_code (m : TimerMode) : timerModeField m.code = some m := by cases m <;> rfl
@[simp] theorem timeBaseField_code (b : TimeBase) : timeBaseField b.code = some b := by cases b <;> rfl
@[simp] theorem flagField_flagByte (b : Bool) : flagField (flagByte b) = some b := by cases b <;> rfl
@[simp] theorem alertModeField_code (m : AlertMode) : alertModeField m.code = some m := by cases m <;> rfl
@[simp] theorem scopeField_code (c : Scope) : scopeField c.code = some c := by cases c <;> rfl
@[simp] theorem sessionModeField_code (m : SessionMode) : sessionModeField m.code = some m := by cases m <;> rfl

/-- A two-byte field reads back the number written in it (R154). -/
theorem twoBytes_word16 (n : Nat) (h : n ≤ 65535) : twoBytes (byteOf n) (byteOf (n / 256)) = n := by
  simp only [twoBytes, byteOf_toNat]
  omega

/-- QUERY_SESSION reads back the session written in its payload (R89). -/
@[simp] theorem readSession_byteOf (d : Deliv) : readSession [byteOf (d.val + 1)] = some d := by revert d; decide

/-- OPEN and SET_SESSION read back the six parameters written in their payload (R77). -/
theorem readParams_payload (p : Params) (h : p.Lawful) : readParams p.payload = some p := by
  obtain ⟨h1, h2, h3, h4, h5, h6, h7⟩ := h
  have e1 : p.window % 256 = p.window := by omega
  have e2 : p.ackTimeout % 256 = p.ackTimeout := by omega
  have e3 : p.retryLimit % 256 = p.retryLimit := by omega
  have e4 : p.holdTime % 256 = p.holdTime := by omega
  have hc : 1 ≤ p.window ∧ p.window ≤ 4 ∧ 1 ≤ p.ackTimeout ∧ p.retryLimit ≤ 7 ∧ (p.mode = .nested → p.window = 1) :=
    ⟨h1, h2, h4, h6, h3⟩
  simp only [Params.payload, readParams, sessionModeField_code, fieldBelow_priority, byteOf_toNat, e1, e2, e3, e4,
    if_pos hc]

/-- The delivery session that the header of a delivery request names (R175). -/
@[simp] theorem delivOf_sessionNumber (d : Deliv) : delivOf (sessionNumber d) = some d := by revert d; decide

/-- Every delivery request may be sent on a delivery session (R175). -/
theorem Request.allowedOn_sessionNumber {r : Request} (h : r.sessions = .delivery) (d : Deliv) :
    r.allowedOn (sessionNumber d) = true := by
  simp [Request.allowedOn, h, sessionNumber]

end Sys2Proof.Machine
end

