-- ==== Sys2Proof/Tests/Slice0.lean ====
section
/-! SUPPORT. The model's own tests: the WellFormed smoke test, values the manual states, and one witness for every
statement with hypotheses, each a state and operands that meet them. -/

namespace Sys2Proof.Tests

open Sys2Proof.Machine

-- One theorem at a time: each thread reserves its stack, and many waiting kernel evaluations at once would exhaust memory.
set_option Elab.async false

/-! ## States -/

/-- The state after the HELLO of reset has been sent: LTX idle and nothing owed. -/
def quiet : State := State.reset.setTransmitter (Transmitter.reset none)

/-- FLAT with the widest window and the smallest timeouts. -/
def flat : Params :=
  { mode := .flat, window := 4, threshold := 0, ackTimeout := 1, retryLimit := 0, holdTime := 0 }

/-- NESTED with the largest values. -/
def nested : Params :=
  { mode := .nested, window := 1, threshold := 15, ackTimeout := 255, retryLimit := 7, holdTime := 255 }

/-- A configured source of session 1 in some state. -/
def record (state : SourceState) (count : Nat) : Source :=
  { Source.reset with
    admission := .on, primary := some 0, state := state
    holder := if state = .offered ∨ state = .inService then some 0 else none
    count := count, firstTime := if count = 0 then none else some 3, lastTime := if count = 0 then none else some 4 }

/-- An offer of a TIMER source: AWAITING with a deadline, OWED, or SENDING. -/
def offer (dn : Byte) (x : SourceId) (owed : Bool) (deadline : Option Instant) : Offer :=
  { dn := dn, source := x, priority := 0, count := 2, saturated := false, firstTime := some 1, lastTime := some 2
    sendNumber := 1, sendOwed := owed, ackDeadline := deadline }

/-- Session 1 ACTIVE with three offers and two sources in service. -/
def session1 : Session :=
  { Session.reset with
    status := .active flat, nextDN := 1
    offers := [offer 0xFE#8 24 false (some 900), offer 0xFF#8 25 true none, offer 0#8 26 false none]
    inService := [{ source := 2, priority := 0, dn := 0xFC#8 }, { source := 31, priority := 0, dn := 0xFD#8 }] }

/-- Session 2 STALLED with its notice owed. -/
def session2 : Session :=
  { Session.reset with
    status := .stalled nested, stall := { exhaustingDN := some 9, withdrawn := [5], count := 1 } }

/-- A capture of session 1 with page 3 to be read. -/
def held : Capture :=
  { owner := 1, time := 7, pagesRead := #v[true, true, true, false]
    entries := Vector.replicate 32
      { state := .idle, holder := none, admission := .off, priority := 0, count := 0, saturated := false
        firstTime := none, lastTime := none, hold := false } }

/-- A part at work: every block holds something. The EVT frame of DN 0 of session 1 is on LTX. -/
def busy : State :=
  { State.reset with
    clock := 500
    sources := ((((((((State.reset.sources.set 24 (record .offered 0)).set 25 (record .offered 1)).set 26
      (record .offered 0)).set 2 (record .inService 0)).set 31 (record .inService 65535)).set 5
      (record .pending 1)).set 6 { record .pending 1 with holdUntil := some 600 }).set 23
      { record .pending 1 with priority := 15, primary := some 1 })
    lines := (State.reset.lines.set 5 { Line.reset false with filter := 7, runCount := 7 }).set 23
      { Line.reset true with sense := .high }
    timeUnit := { State.reset.timeUnit with
      nextTick := some 501
      timers := ((State.reset.timeUnit.timers.set 0 { Timer.reset with state := .running, remaining := 1 }).set 1
        { Timer.reset with mode := .gap, state := .waiting, watched := 5 }).set 7
        { Timer.reset with mode := .periodic, period := 65535, state := .running, remaining := 2 } }
    sessions := (State.reset.sessions.set 0 session1).set 1 session2
    alert := { enabled := true, mode := .renew, pin := true, gap := none }
    capture := some held
    receiver := { Receiver.reset with
      framing := .headerLen, gapTimer := some 1500
      slots := #v[.reply, .free, .free, .free], arrivals := [0] }
    dispatcher := { Dispatcher.reset with
      caches := (Dispatcher.reset.caches.set 0 (some { type := 0x13#8, tag := 1#8, status := .ok, contents := [] })) }
    transmitter := { Transmitter.reset none with
      replyQueue :=
        [{ slot := 0, sess := 0#8, tag := 1#8, type := 0x13#8, status := .ok, contents := [], startsReset := false }]
      stallOwed := #v[false, true, false, false]
      frame := some { kind := .evt 0 0#8, bytes := [] } } }

/-- `busy` with LTX idle and every offer out of SENDING, nothing queued and nothing owed. -/
def idle : State :=
  (busy.setSession 0 { session1 with
    offers := [offer 0xFE#8 24 false (some 900), offer 0xFF#8 25 true none] }).setTransmitter (Transmitter.reset none)

/-- `idle` with a frame on LTX. -/
def sending (kind : TxKind) : State := idle.setTransmitter { idle.transmitter with frame := some { kind := kind, bytes := [] } }

/-- `idle` with a RESET pending and its reply on LTX. -/
def resetting (scope : Scope) : State :=
  (sending (.reply 0 true)).setDispatcher { Dispatcher.reset with pendingReset := some scope }

/-- `quiet` with all four receive slots in use. -/
def full : State :=
  quiet.setReceiver { Receiver.reset with slots := Vector.replicate 4 .reply, arrivals := [0, 1, 2, 3] }

/-- The receiver inside a frame. -/
def receiving (framing : Framing) : State :=
  quiet.setReceiver { Receiver.reset with framing := framing, gapTimer := some 2000 }

/-- A quiet part with the alert output set so. -/
def alerting (enabled : Bool) (mode : AlertMode) (gap : Option Instant) : State :=
  quiet.setAlertBlock { enabled := enabled, mode := mode, pin := false, gap := gap }

/-! ## WellFormed: each check refuses what it must -/

theorem test_payload_of_48_fits : (Instr.setAdmit 0#8 0#8 (List.replicate 48 0#8)).wellFormed = true := by decide
theorem test_payload_of_49_refused : (Instr.setAdmit 0#8 0#8 (List.replicate 49 0#8)).wellFormed = false := by decide
theorem test_unknown_type_is_unknown : (Instr.unknownType 0x15#8 0#8 0#8 []).wellFormed = true := by decide
theorem test_unknown_type_of_known_code_refused : (Instr.unknownType 0x27#8 0#8 0#8 []).wellFormed = false := by decide
theorem test_unknown_type_payload_refused :
    (Instr.unknownType 0x15#8 0#8 0#8 (List.replicate 49 0#8)).wellFormed = false := by decide
theorem test_len_fault_of_49 : (Instr.frameFault (.lenAbove 49#8)).wellFormed = true := by decide
theorem test_len_fault_of_48_refused : (Instr.frameFault (.lenAbove 48#8)).wellFormed = false := by decide

/-! ## Values the manual states -/

/-- The check value of R155. -/
theorem test_crc_of_manual :
    crc16 [0x31#8, 0x32#8, 0x33#8, 0x34#8, 0x35#8, 0x36#8, 0x37#8, 0x38#8, 0x39#8] = 0x29B1#16 := by decide +kernel

/-- The contents of the newest reply that a command leaves. -/
def newest : Host.Outcome State Fault Refusal → List Byte
  | .next t => (t.transmitter.replyQueue.getLast?.map Reply.contents).getD []
  | .fault _ => []
  | .refused _ => []

/-- The bytes of the frame that a command leaves on LTX, without its two check bytes. -/
def onLine : Host.Outcome State Fault Refusal → List Byte
  | .next t => ((t.transmitter.frame.map TxFrame.bytes).getD []).dropLast.dropLast
  | .fault _ => []
  | .refused _ => []

/-- The pin and the end of the gap that a command leaves. -/
def alertOf : Host.Outcome State Fault Refusal → Bool × Option Instant
  | .next t => (t.alert.pin, t.alert.gap)
  | .fault _ => (false, none)
  | .refused _ => (false, none)

/-- The record of a timer that a command leaves. -/
def timerOf (k : TimerId) : Host.Outcome State Fault Refusal → Option Timer
  | .next t => some (t.timer k)
  | .fault _ => none
  | .refused _ => none

/-- 11.1: the first pick after power-on sends HELLO: cause POWER, version 1, 32 sources, 4 sessions; CREDIT 4. -/
theorem test_hello_of_bring_up :
    onLine (exec .pick State.reset) = [0xB6#8, 4#8, 0#8, 0x90#8, 0#8, 4#8, 0#8, 1#8, 32#8, 4#8] := by decide +kernel

/-- 11.1: CONFIG_TIMER 0 PERIODIC 1000 answers timer 0, STOPPED, period 1000, pending 0. -/
theorem test_config_timer_of_bring_up :
    newest (exec (.configTimer 0#8 0#8 [0#8, 1#8, 0xE8#8, 3#8, 0#8]) quiet) =
      [0#8, 0#8, 0xE8#8, 3#8, 0#8, 0#8] := by decide +kernel

/-- 11.1: SET_ADMIT 4 ON with EV4 asserted answers source 4, old admit 0, state 1. -/
theorem test_set_admit_of_bring_up :
    newest (exec (.setAdmit 0#8 0#8 [4#8, 2#8]) (quiet.setLine 4 { Line.reset true with sense := .high })) =
      [4#8, 0#8, 1#8] := by decide +kernel

/-- 11.3: ACCEPT under AUTO with a fresh count of 1 answers source 24, PENDING, the offer's count 1. -/
theorem test_accept_auto_of_coalescing :
    newest (exec (.accept 1#8 0#8 [8#8])
      ((quiet.setSource 24 { record .offered 1 with completion := .auto }).setSession 0
        { session1 with offers := [{ offer 8#8 24 false (some 900) with count := 1 }] })) =
      [24#8, 1#8, 1#8, 0#8] := by decide +kernel

/-- 11.5: the twelve bytes of the CLOSE reply: withdrawn (6, PENDING) and (24, PENDING), abandoned (21, IDLE) and
(17, PENDING), no unreported stall. -/
theorem test_close_reply_of_abandonment :
    newest (exec (.close 1#8 0#8 [])
      ((((((quiet.setSource 6 (record .offered 1)).setSource 24 (record .offered 0)).setSource 21
        (record .inService 0)).setSource 17 (record .inService 0)).setLine 17
        { Line.reset true with sense := .high }).setSession 0 { session1 with
          offers := [offer 30#8 6 false (some 900), offer 31#8 24 true none]
          inService := [{ source := 21, priority := 0, dn := 28#8 }, { source := 17, priority := 0, dn := 29#8 }] })) =
      [2#8, 6#8, 1#8, 24#8, 1#8, 2#8, 21#8, 0#8, 17#8, 1#8, 0#8, 0#8] := by decide +kernel

/-- 5.7 at 300: source 9 joins while the pin is high in RENEW mode; the pin drops and the gap ends 2 microseconds on. -/
theorem test_renewal_trigger :
    alertOf (exec (.assertion 9)
      (((((quiet.setClock 300).setAlertBlock { enabled := true, mode := .renew, pin := true, gap := none }).setSource 5
        { record .offered 0 with priority := 15 }).setSource 9 { record .idle 0 with priority := 15 }).setLine 9
        { Line.reset false with sense := .high })) = (false, some 302) := by decide +kernel

/-- 5.7 at 302: the gap ends while source 9 contributes, and the pin rises. -/
theorem test_renewal_gap_end :
    alertOf (exec .renewalGapEnd ((alerting true .renew (some 302)).setSource 9
      { record .pending 1 with priority := 15 })) = (true, none) := by decide +kernel

/-- 7.7 at tick 1150: the reload takes the pending period 80. -/
theorem test_reload_takes_pending_period :
    timerOf 2 (exec .tick (quiet.setTimer 2
      { mode := .periodic, period := 50, pendingPeriod := some 80, remaining := 1, state := .running, watched := 0 })) =
      some { mode := .periodic, period := 80, pendingPeriod := none, remaining := 80, state := .running
             watched := 0 } := by decide +kernel

/-- 7.8 at 5900: an edge on EV3 under admit HOLD restarts the WAITING timer T5. -/
theorem test_edge_restarts_waiting_gap_timer :
    timerOf 5 (exec (.occurrence 3 true) ((quiet.setSource 3 { record .pending 3 with admission := .hold }).setTimer 5
      { mode := .gap, period := 200, pendingPeriod := none, remaining := 0, state := .waiting, watched := 3 })) =
      some { mode := .gap, period := 200, pendingPeriod := none, remaining := 200, state := .running
             watched := 3 } := by decide +kernel

/-- 8.6 and 11.6: SNAPSHOT on a buffer held for session 0 since 20150 answers that time and that owner. -/
theorem test_snapshot_of_held_buffer :
    newest (exec (.snapshot 3#8 14#8 []) (quiet.setCapture (some { held with owner := 0, time := 20150 }))) =
      [0xB6#8, 0x4E#8, 0#8, 0#8, 0#8] := by decide +kernel

/-- 9.9: the LINK notice carries overrun count 1, fault count 0, last discarded session 1 TAG 22, and CREDIT 4. -/
theorem test_link_notice_of_overrun :
    onLine (exec .pick ((quiet.setReceiver { Receiver.reset with
      overruns := 1, lastDiscarded := some (1#8, 22#8) }).setTransmitter { Transmitter.reset none with
      linkOwed := true })) =
      [0xB6#8, 5#8, 0#8, 0x91#8, 0#8, 4#8, 1#8, 0#8, 1#8, 1#8, 22#8] := by decide +kernel

/-- R158: the start bit of the next character stops the gap timer, and the frame in progress stays. -/
theorem test_start_bit_stops_gap_timer :
    (match exec (.characterCompleted 0#8 .startBit) (receiving .headerLen) with
      | .next t => some (t.receiver.framing, t.receiver.gapTimer)
      | _ => none) = some (.headerLen, none) := by decide +kernel

/-- R168: with RSTn low at the end of the millisecond the part stays held; the later release ends the reset with cause
POWER. -/
theorem test_low_rstn_holds_power_on_reset :
    (match exec (.powerOnResetEnd true false) (quiet.setPhase (.powerOn 7 true)) with
      | .next t =>
        match exec (.rstnRelease true false) t with
        | .next u => some (t.phase, t.clock, u.phase, u.transmitter.hello, u.linkRate)
        | _ => none
      | _ => none) = some (.powerOn 7 true, 1007, .running, some .power, .r921600) := by decide +kernel

/-! ## Witnesses: the hypotheses of each statement are met together -/

theorem test_busy_sources_are_lawful : busy.SourcesLawful ∧ busy.PendingLevelAsserted := by decide +kernel

theorem test_busy_sessions_are_lawful : busy.SessionsLawful := by decide +kernel

theorem test_busy_lists_match_sources : busy.ListsMatchSources := by decide +kernel

theorem test_busy_lines_and_timers_are_lawful : busy.LinesLawful ∧ busy.TimersLawful := by decide +kernel

theorem test_busy_link_is_lawful :
    busy.AlertLaw ∧ busy.SlotsLawful ∧ busy.receiver.Lawful ∧ busy.SendingIsOnLine ∧ busy.StallNoticeLawful ∧
      busy.CaptureLawful ∧ busy.HeldLaw := by decide +kernel

theorem witness_HeaderChecks :
    quiet.canReceive 0 ∧ busy.canReceive 1 ∧ 5 ≤ (5#8).toNat ∧ 5 ≤ (255#8).toNat ∧
      quiet.canTake 4 Request.reset.code 255#8 0 ∧ Request.reset.sessions = .management ∧
      quiet.canTake 0 Request.close.code 0#8 0 ∧ Request.close.sessions = .delivery ∧
      [0#8].length ≠ Request.close.payloadLen ∧ ([] : List Byte).length ≠ Request.openSession.payloadLen ∧
      Request.snapshot.sessions = .anySession := by decide +kernel

theorem witness_UnknownTypeRefused :
    0x15#8 ∉ requestCodes ∧ 0x28#8 ∉ requestCodes ∧ quiet.canTake 0 0x15#8 0#8 0 ∧ quiet.canTake 4 0x28#8 255#8 0 ∧
      quiet.canReceive 0 ∧ 5 ≤ (5#8).toNat := by decide +kernel

theorem witness_FieldChecks :
    quiet.canTake 0 Request.setAdmission.code 0#8 0 ∧ Request.setAdmission.allowedOn 0 = true ∧
      [32#8, 2#8].length = Request.setAdmission.payloadLen ∧ Request.setAdmission.outOfRange [32#8, 2#8] = true ∧
      Request.setAdmission.outOfRange [31#8, 2#8] = false ∧ Request.setAdmission.outOfRange [31#8, 3#8] = true ∧
      Request.configTimer.outOfRange [7#8, 2#8, 0#8, 0#8, 23#8] = true ∧
      Request.configTimer.outOfRange [7#8, 2#8, 1#8, 0#8, 23#8] = false := by decide +kernel

theorem witness_RefusedChangesNothing :
    busy.canTake 1 Request.accept.code 0#8 1 ∧ busy.canTake 0 Request.readTime.code 2#8 1 := by decide +kernel

theorem witness_ReplayAnswersFromCache :
    busy.canReceive 1 ∧ busy.dispatcher.caches[(0 : SessId)] =
      some { type := Request.readTime.code, tag := 1#8, status := .ok, contents := [] } := by decide +kernel

theorem witness_ReplayAnswersFromCache_unknown :
    let c : CacheEntry := { type := 0x15#8, tag := 255#8, status := .unknownType, contents := [] }
    let s := quiet.setDispatcher { Dispatcher.reset with caches := Dispatcher.reset.caches.set 4 (some c) }
    s.canReceive 0 ∧ s.dispatcher.caches[(4 : SessId)] = some c := by decide +kernel

theorem witness_PendingResetHoldsRequests :
    (resetting .full).phase = .running ∧ (resetting .full).dispatcher.pendingReset = some .full ∧
      (resetting .full).receiver.slots[(1 : SlotId)] = .free ∧
      ∀ j : SlotId, j < 1 → (resetting .full).receiver.slots[j] ≠ .free := by decide +kernel

theorem witness_OverrunDiscards : full.phase = .running ∧ ∀ i : SlotId, full.receiver.slots[i] ≠ .free := by
  decide +kernel

theorem witness_ResetStopsReceiver :
    (busy.setPhase .pinReset).phase ≠ .running ∧ (busy.setPhase (.powerOn 0 true)).phase ≠ .running := by
  decide +kernel

theorem witness_SessionStateRefusals :
    busy.canTake (sessionNumber 3) Request.doneTop.code 0#8 1 ∧ ([] : List Byte).length = Request.doneTop.payloadLen ∧
      Request.doneTop.outOfRange [] = false ∧ (busy.session 3).status = .closed ∧
      busy.canTake (sessionNumber 0) 0x20#8 0#8 1 ∧ Request.openSession.outOfRange flat.payload = false ∧
      flat.payload.length = 6 ∧ (busy.session 0).status ≠ .closed ∧ busy.canTake (sessionNumber 0) 0x23#8 0#8 1 ∧
      (busy.session 0).status = .active flat := by decide +kernel

theorem witness_BusyRefusals_source :
    busy.canTake 0 0x01#8 0#8 1 ∧ ((some 0 : Option Deliv) ≠ some 3) ∧ (busy.source 24).state = .offered ∧
      (busy.source 31).state = .inService ∧ busy.canTake 0 0x03#8 0#8 1 ∧
      (busy.source (lineSource 23)).state ≠ .idle := by decide +kernel

theorem witness_BusyRefusals_timer :
    busy.canTake 0 0x04#8 0#8 1 ∧ (busy.timer 0).state ≠ .stopped ∧ (busy.timer 0).mode ≠ .gap ∧
      (busy.timer 1).state ≠ .stopped ∧ (busy.timer 1).watched ≠ 23 ∧ busy.canTake 0 0x07#8 0#8 1 := by
  decide +kernel

theorem witness_BusyRefusals_session :
    busy.canTake (sessionNumber 0) 0x22#8 0#8 1 ∧ nested.Lawful ∧ (busy.session 0).status = .active flat ∧
      nested.mode ≠ flat.mode ∧ (busy.session 0).offers ≠ [] := by decide +kernel

theorem witness_StaleAndNotInService :
    (busy.session 1).status = .stalled nested ∧ (busy.session 0).status = .active flat ∧
      (∀ o ∈ (busy.session 0).offers, o.dn ≠ 1#8) ∧ busy.canTake (sessionNumber 0) 0x24#8 0#8 1 ∧
      busy.canTake (sessionNumber 1) 0x25#8 0#8 1 ∧ busy.canTake (sessionNumber 1) 0x26#8 0#8 1 ∧
      (busy.source 31).holder ≠ some 1 ∧ busy.canTake (sessionNumber 1) 0x27#8 0#8 1 ∧
      (busy.session 1).inService = [] := by decide +kernel

theorem witness_ConfigSourceTakes :
    busy.canTake 0 0x01#8 0#8 1 ∧ (busy.source 23).state = .pending ∧ (busy.source 0).state = .idle := by
  decide +kernel

theorem witness_SetAdmitTakes :
    busy.canTake 0 0x02#8 0#8 1 ∧ (busy.source 30).admission = .off ∧ (busy.source 5).admission ≠ .off ∧
      busy.isAsserted 30 = false ∧
      (let s := busy.setSource 23 Source.reset
       s.canTake 0 0x02#8 0#8 1 ∧ (s.source 23).admission = .off ∧ (s.source 23).state = .idle ∧
        s.isAsserted 23 = true) := by decide +kernel

theorem witness_ConfigLineTakes :
    busy.canTake 0 0x03#8 0#8 1 ∧ (busy.source (lineSource 0)).state = .idle := by decide +kernel

theorem witness_ConfigTimerTakes :
    busy.canTake 0 0x04#8 0#8 1 ∧ 1 ≤ (65535 : Nat) ∧ (busy.timer 6).state = .stopped ∧
      (busy.timer 7).state ≠ .stopped ∧ (busy.timer 7).mode = .periodic ∧ (busy.timer 7).watched = 0 := by
  decide +kernel

theorem witness_TimerStartsAndStops : busy.canTake 0 0x05#8 0#8 1 ∧ busy.canTake 0 0x06#8 0#8 1 := by decide +kernel

theorem witness_SetTimebaseTakes :
    quiet.canTake 0 0x07#8 0#8 0 ∧ ∀ k : TimerId, (quiet.timer k).state = .stopped := by decide +kernel

theorem witness_SetAlertTakes :
    (alerting false .level none).canTake 0 0x08#8 0#8 0 ∧ (alerting true .level none).canTake 0 0x08#8 0#8 0 ∧
      (alerting true .renew none).canTake 0 0x08#8 0#8 0 ∧
      (alerting true .renew (some 2)).canTake 0 0x08#8 0#8 0 := by decide +kernel

theorem witness_ResetTakes : busy.canTake 0 0x09#8 0#8 1 := by decide +kernel

theorem witness_QuerySourceAnswers :
    busy.canTake 1 0x10#8 1#8 1 ∧ (busy.source 6).holdUntil = some 600 ∧ busy.clock < 600 ∧
      (busy.source 5).holdUntil = none := by decide +kernel

theorem witness_LineAndTimerQueriesAnswer : busy.canTake 0 0x11#8 1#8 1 ∧ busy.canTake 4 0x12#8 1#8 1 := by
  decide +kernel

theorem witness_ReadTimeAnswers : busy.canTake 2 0x13#8 1#8 1 ∧ quiet.canTake 0 0x13#8 0#8 0 := by decide +kernel

theorem witness_QuerySessionAnswers :
    busy.canTake 3 0x14#8 1#8 1 ∧ (busy.session 2).status = .closed ∧ (busy.session 0).status = .active flat ∧
      (busy.session 1).status = .stalled nested := by decide +kernel

theorem witness_SnapshotTakes :
    quiet.canTake 4 0x18#8 0#8 0 ∧ quiet.capture = none ∧ quiet.timeUnit.dueExpiries = [] ∧
      (quiet.setDueExpiries [(0, 9)]).canTake 0 0x18#8 0#8 0 ∧ (quiet.setDueExpiries [(0, 9)]).capture = none ∧
      busy.canTake 0 0x18#8 0#8 1 ∧ busy.capture = some held := by decide +kernel

theorem witness_CaptureIsRead :
    quiet.canTake 0 0x19#8 0#8 0 ∧ quiet.capture = none ∧ busy.canTake 1 0x19#8 0#8 1 ∧
      busy.capture = some held ∧ held.owner = 1 ∧ busy.canTake 4 0x19#8 0#8 1 := by decide +kernel

theorem witness_CaptureIsDiscarded :
    quiet.canTake 0 0x1A#8 0#8 0 ∧ quiet.capture = none ∧ busy.canTake 1 0x1A#8 0#8 1 ∧
      busy.capture = some held ∧ held.owner = 1 ∧ busy.canTake 4 0x1A#8 0#8 1 := by decide +kernel

theorem witness_OpenTakes :
    busy.canTake (sessionNumber 3) 0x20#8 0#8 1 ∧ nested.Lawful ∧ flat.Lawful ∧
      (busy.session 3).status = .closed := by decide +kernel

theorem witness_CloseTakes :
    busy.canTake (sessionNumber 0) 0x21#8 0#8 1 ∧ (busy.session 0).status ≠ .closed ∧ busy.ListsMatchSources := by
  decide +kernel

theorem witness_SetSessionAndResumeTake :
    busy.canTake (sessionNumber 0) 0x22#8 0#8 1 ∧ flat.Lawful ∧ (busy.session 0).status = .active flat ∧
      busy.canTake (sessionNumber 1) 0x22#8 0#8 1 ∧ (busy.session 1).status = .stalled nested ∧
      (busy.session 1).offers = [] ∧ (busy.session 1).inService = [] ∧
      busy.canTake (sessionNumber 1) 0x23#8 0#8 1 := by decide +kernel

theorem witness_AcceptTakes :
    busy.canTake (sessionNumber 0) 0x24#8 0#8 1 ∧ (busy.session 0).status = .active flat ∧
      offer 0#8 26 false none ∈ (busy.session 0).offers ∧ ((busy.session 0).offers.map Offer.dn).Nodup ∧
      (busy.source 26).completion = .manual ∧
      ((busy.setSource 26 { record .offered 0 with completion := .auto }).source 26).completion = .auto := by
  decide +kernel

theorem witness_ReturnTakes :
    busy.canTake (sessionNumber 0) 0x25#8 0#8 1 ∧ (busy.session 0).status = .active flat ∧
      offer 0xFF#8 25 true none ∈ (busy.session 0).offers ∧ ((busy.session 0).offers.map Offer.dn).Nodup := by
  decide +kernel

theorem witness_DoneTakes :
    busy.canTake (sessionNumber 0) 0x26#8 0#8 1 ∧ (busy.session 0).status ≠ .closed ∧
      (busy.source 2).state = .inService ∧ (busy.source 2).holder = some 0 ∧
      ((busy.session 0).inService.map Entry.source).Nodup ∧ busy.canTake (sessionNumber 0) 0x27#8 0#8 1 ∧
      (busy.session 0).inService = [{ source := 2, priority := 0, dn := 0xFC#8 }] ++
        [{ source := 31, priority := 0, dn := 0xFD#8 }] := by decide +kernel

theorem witness_FrameFaultsCount :
    busy.phase = .running ∧ busy.receiver.gapTimer = some 1500 ∧ quiet.phase = .running ∧
      quiet.receiver.gapTimer = none := by decide +kernel

theorem witness_CharacterMovesReceiver :
    quiet.phase = .running ∧ quiet.receiver.framing = .hunt ∧ (48#8).toNat ≤ 48 ∧ 49 ≤ (49#8).toNat ∧
      (receiving .headerLen).receiver.framing = .headerLen ∧
      (receiving (.headerSess 48#8)).receiver.framing = .headerSess 48#8 ∧
      (receiving (.headerType 48#8 0#8)).receiver.framing = .headerType 48#8 0#8 ∧
      (receiving (.headerTag 0#8 0#8 0x13#8)).receiver.framing = .headerTag 0#8 0#8 0x13#8 ∧
      (receiving (.payload 2#8 0#8 2#8 0#8 [])).receiver.framing = .payload 2#8 0#8 2#8 0#8 [] ∧
      ([] : List Byte).length + 1 < (2#8).toNat ∧ (1#8).toNat ≤ ([] : List Byte).length + 1 := by decide +kernel

theorem witness_CharacterMovesReceiver_check :
    (receiving (.checkLow 0#8 0#8 0x13#8 0#8 [])).receiver.framing = .checkLow 0#8 0#8 0x13#8 0#8 [] ∧
      (receiving (.checkHigh 0#8 0#8 0x13#8 0#8 [] 0#8)).receiver.framing = .checkHigh 0#8 0#8 0x13#8 0#8 [] 0#8 ∧
      (let c := crc16 (0#8 :: 0#8 :: 0x13#8 :: 0#8 :: [])
       c.extractLsb' 8 8 ++ c.extractLsb' 0 8 = crc16 (0#8 :: 0#8 :: 0x13#8 :: 0#8 :: []) ∧
        c.extractLsb' 8 8 ++ (c.extractLsb' 0 8 + 1) ≠ crc16 (0#8 :: 0#8 :: 0x13#8 :: 0#8 :: [])) := by
  decide +kernel

theorem witness_CharactersMakeTheFrame :
    quiet.phase = .running ∧ quiet.receiver.framing = .hunt ∧ (List.replicate 48 (0#8 : Byte)).length ≤ 48 := by
  decide +kernel

theorem witness_PickTakesRepliesThenNotices :
    quiet.phase = .running ∧ quiet.transmitter.frame = none ∧ State.reset.transmitter.replyQueue = [] ∧
      State.reset.transmitter.hello = some .power ∧
      (let s := idle.setTransmitter { idle.transmitter with replyQueue := busy.transmitter.replyQueue }
       s.phase = .running ∧ s.transmitter.frame = none ∧ s.transmitter.replyQueue =
        [{ slot := 0, sess := 0#8, tag := 1#8, type := 0x13#8, status := .ok, contents := [],
           startsReset := false }]) ∧
      (let s := idle.setTransmitter { idle.transmitter with linkOwed := true }
       s.transmitter.replyQueue = [] ∧ s.transmitter.hello = none ∧ s.transmitter.linkOwed = true) ∧
      (let s := idle.setTransmitter { idle.transmitter with stallOwed := #v[false, true, false, false] }
       s.transmitter.linkOwed = false ∧ s.transmitter.stallOwed[(1 : Deliv)] = true ∧
        (∀ e : Deliv, e < 1 → s.transmitter.stallOwed[e] = false) ∧
        (s.session 1).stall.exhaustingDN = some 9) := by decide +kernel

theorem witness_PickPollsTheSessions_silent :
    quiet.phase = .running ∧ quiet.transmitter.frame = none ∧ quiet.transmitter.replyQueue = [] ∧
      quiet.transmitter.hello = none ∧ quiet.transmitter.linkOwed = false ∧
      (∀ d : Deliv, quiet.transmitter.stallOwed[d] = false) ∧ ∀ d : Deliv, (quiet.session d).isActive = false := by
  decide +kernel

theorem witness_PickPollsTheSessions_resend :
    idle.phase = .running ∧ idle.transmitter.frame = none ∧ idle.transmitter.replyQueue = [] ∧
      idle.transmitter.hello = none ∧ idle.transmitter.linkOwed = false ∧
      (∀ d : Deliv, idle.transmitter.stallOwed[d] = false) ∧ idle.transmitter.rrPointer = none ∧
      (idle.session 0).isActive = true ∧
      (idle.session 0).offers = [offer 0xFE#8 24 false (some 900)] ++ offer 0xFF#8 25 true none :: [] := by
  decide +kernel

/-- Session 4, the last of the order [1, 2, 3, 4], with a new offer to make. -/
theorem witness_PickPollsTheSessions_offer :
    let s := (quiet.setSource 31 { record .pending 65535 with primary := some 3 }).setSession 3
      { Session.reset with status := .active flat }
    s.phase = .running ∧ s.transmitter.frame = none ∧ ([0, 1, 2, 3] : List Deliv) = [0, 1, 2] ++ 3 :: [] ∧
      (∀ e ∈ ([0, 1, 2] : List Deliv), (s.session e).isActive = false) ∧ (s.session 3).isActive = true ∧
      (s.session 3).offers = [] ∧ s.select 3 = some 31 := by decide +kernel

theorem witness_EndOfFrameTakesItsEffect :
    (sending (.reply 0 false)).phase = .running ∧
      (sending (.reply 0 false)).transmitter.frame = some { kind := .reply 0 false, bytes := [] } ∧
      (sending (.stall 3)).transmitter.frame = some { kind := .stall 3, bytes := [] } ∧
      (sending (.evt 0 1#8)).transmitter.frame = some { kind := .evt 0 1#8, bytes := [] } ∧
      (∀ o ∈ ((sending (.evt 0 1#8)).session 0).offers, o.dn ≠ 1#8) ∧
      busy.transmitter.frame = some { kind := .evt 0 0#8, bytes := [] } ∧
      (busy.session 0).params = some flat ∧ ((busy.session 0).offers.map Offer.dn).Nodup := by decide +kernel

theorem witness_ResetTakesEffect :
    ∀ scope : Scope, (resetting scope).phase = .running ∧
      (resetting scope).transmitter.frame = some { kind := .reply 0 true, bytes := [] } ∧
      (resetting scope).dispatcher.pendingReset = some scope := by
  intro scope; cases scope <;> decide +kernel

theorem witness_AckDeadlineExpires :
    busy.phase = .running ∧ (busy.session 0).status = .active flat ∧
      offer 0xFE#8 24 false (some 900) ∈ (busy.session 0).offers ∧
      (offer 0xFE#8 24 false (some 900)).ackDeadline = some 900 ∧ ((busy.session 0).offers.map Offer.dn).Nodup ∧
      flat.retryLimit < (offer 0xFE#8 24 false (some 900)).sendNumber ∧
      ((busy.session 0).offers.map Offer.source).Nodup ∧
      (let s := busy.setSession 0 { session1 with status := .active { flat with retryLimit := 1 } }
       (s.session 0).status = .active { flat with retryLimit := 1 } ∧
        offer 0xFE#8 24 false (some 900) ∈ (s.session 0).offers ∧
        (offer 0xFE#8 24 false (some 900)).sendNumber ≤ 1) := by decide +kernel

theorem witness_HoldsAndGapsEnd :
    busy.phase = .running ∧ (busy.source 6).holdUntil = some 600 ∧ (busy.source 5).holdUntil = none ∧
      (alerting true .renew (some 2)).phase = .running ∧ (alerting true .renew (some 2)).alert.gap = some 2 ∧
      busy.alert.gap = none := by decide +kernel

theorem witness_TickSteps :
    busy.phase = .running ∧ busy.timeUnit.nextTick = some 501 ∧ busy.timeUnit.dueExpiries = [] ∧
      (busy.setDueExpiries [(7, 9)]).phase = .running ∧
      (busy.setDueExpiries [(7, 9)]).timeUnit.nextTick = some 501 ∧
      (quiet.timer 0).stepped.2 = false := by decide +kernel

theorem witness_TimerExpires_waiting :
    (busy.setDueExpiries [(0, 9), (7, 9)]).phase = .running ∧
      (busy.setDueExpiries [(0, 9), (7, 9)]).timeUnit.dueExpiries = [(0, 9)] ++ (7, 9) :: [] := by decide +kernel

theorem witness_TimerExpires_before : ∀ e ∈ ([(0, 9)] : List (TimerId × Tick)), e.1 ≠ 7 :=
  fun _ h => List.mem_singleton.mp h ▸ by decide

theorem witness_TimerExpires :
    busy.phase = .running ∧ busy.timeUnit.dueExpiries = [] ∧ busy.timeUnit.nextTick = some 501 ∧
      (busy.timer 1).state ≠ .running ∧ (busy.timer 7).state = .running ∧ 2 ≤ (busy.timer 7).remaining ∧
      (busy.timer 0).state = .running ∧ (busy.timer 0).remaining = 1 := by decide +kernel

theorem witness_LineReportsAreTaken :
    busy.phase = .running ∧ (busy.line 0).filtered ≠ true ∧ (busy.line 0).sense.report true = .occurrence ∧
      (busy.line 23).filtered ≠ false ∧ (busy.line 23).sense.report false = .deassertion ∧
      (let s := busy.setLine 22 { Line.reset true with sense := .low }
       s.phase = .running ∧ (s.line 22).filtered ≠ false ∧ (s.line 22).sense.report false = .assertion) := by
  decide +kernel

theorem witness_LineSampleFilters : busy.phase = .running ∧ (busy.setPhase .pinReset).phase ≠ .running := by
  decide +kernel

theorem witness_ResetsOfThePins :
    busy.phase = .running ∧ (quiet.setPhase .pinReset).phase = .pinReset ∧
      (quiet.setPhase (.powerOn 0 false)).phase = .powerOn 0 false ∧
      (let s := (quiet.setPhase (.powerOn 0 true)).setClock 1000
       s.phase = .powerOn 0 true ∧ 0 + 1000 ≤ s.clock) ∧
      (let s := (quiet.setPhase (.powerOn 0 true)).setClock 999
       s.phase = .powerOn 0 true ∧ s.clock < 0 + 1000) := by decide +kernel

theorem witness_SelectionRule : idle.select 0 = some 5 ∧ idle.select 2 = none := by decide +kernel

theorem witness_DeliveryNumberIsFresh :
    session1.offers.length ≤ 4 ∧ { session1 with nextDN := 0xFE#8 }.assignDN = 1#8 := by decide +kernel

theorem witness_ComingHomeRules :
    Source.reset.admission = .off ∧ (record .offered 0).admission ≠ .off ∧ (record .offered 0).count = 0 ∧
      0 < (record .offered 65535).count := by decide +kernel

theorem witness_AlertFollowsCondition :
    busy.alert.enabled = true ∧ busy.alert.gap = none ∧ busy.alert.mode = .renew ∧ busy.alert.pin = true ∧
      urgent busy.sources = true ∧ joinsPending quiet.sources busy.sources = true ∧
      joinsPending busy.sources busy.sources = false ∧ urgent quiet.sources = false ∧
      (alerting true .renew (some 2)).alert.gap ≠ none ∧ (alerting false .level none).alert.enabled = false := by
  decide +kernel

/-- From the lawful `busy` the RETURN of an offer in transmission answers a next state; the laws' premises are those of
the `test_busy_…` theorems. -/
theorem witness_LawsKept : ∃ t, step (busy.setPending [.returnOffer 1#8 0#8 [0#8]]) = .next t := ⟨_, rfl⟩

end Sys2Proof.Tests
end

section
/-! The notions in which the proofs speak of sources, sessions, commands and samples. Each is tied to the model by the
lemmas of the sections below. -/

namespace Sys2Proof.Machine

/-! ## The laws of delivery, session by session -/

/-- The source is out: OFFERED or IN_SERVICE (R3). -/
def Source.IsOut (r : Source) : Prop := r.state = .offered ∨ r.state = .inService

/-- The source is out at session `d`. -/
def Source.OutAt (r : Source) (d : Deliv) : Prop := r.IsOut ∧ r.holder = some d

/-- What session `e` shows of a source is the same in both records: its state, holder and priority, or that it is not out
at `e`. -/
def Source.SameAt (e : Deliv) (r r' : Source) : Prop :=
  (r'.state = r.state ∧ r'.holder = r.holder ∧ r'.priority = r.priority) ∨ (¬ r.OutAt e ∧ ¬ r'.OutAt e)

/-- The lists of session `d` agree with the source records `src` (R46, R56). -/
def Session.Matches (v : Session) (d : Deliv) (src : SourceId → Source) : Prop :=
  (v.offers.map Offer.source).Nodup ∧ (v.inService.map Entry.source).Nodup ∧
  (∀ o ∈ v.offers, o.priority = (src o.source).priority) ∧
  (∀ e ∈ v.inService, e.priority = (src e.source).priority) ∧
  ∀ x : SourceId,
    (x ∈ v.offers.map Offer.source ↔ (src x).state = .offered ∧ (src x).holder = some d) ∧
    (x ∈ v.inService.map Entry.source ↔ (src x).state = .inService ∧ (src x).holder = some d)

/-- The SENDING offers of session `d` are those of the frame `k` on LTX (R48). -/
def Session.SendsOn (v : Session) (d : Deliv) (k : Option TxKind) : Prop :=
  ∀ o ∈ v.offers, (o.phase = .sending ↔ k = some (.evt d o.dn))

/-- The kind of the frame on LTX. -/
def State.onLine (s : State) : Option TxKind := s.transmitter.frame.map TxFrame.kind

/-- The laws of the sources, of the sessions and of their agreement (R3 to R9, R31 to R34, R41, R46, R48). -/
structure State.DeliveryLawful (s : State) : Prop where
  sources : s.SourcesLawful
  sessions : s.SessionsLawful
  lists : s.ListsMatchSources
  sending : s.SendingIsOnLine

/-! ## What one command can do to the records that the laws of delivery read -/

/-- A change of one source record that no session sees: what R5 to R7, R10 to R13 and R20 make of the record of a source of
this type, whose line was asserted before and is asserted after it as given. -/
inductive Source.Step (levelType was is : Bool) (r : Source) : Source → Prop
  /-- The settings of R10 and R13 change, or the hold ends (R20). -/
  | settings (a : Admission) (p : Priority) (primary fallback : Option Deliv) (c : Completion) (hold : Option Instant)
      (ha : a = r.admission ∨ a ≠ .off) (hp : p = r.priority ∨ ¬ r.IsOut) (hh : hold = r.holdUntil ∨ hold = none)
      (hl : levelType = true → r.state = .pending → was = true → is = true) :
      Step levelType was is r
        { r with admission := a, priority := p, primary := primary, fallback := fallback, completion := c, holdUntil := hold }
  | occurs (t : Tick) (hl : levelType = false) : Step levelType was is r (r.occurrenceTaken t)
  | raised (a : Admission) (t : Tick) (ha : a ≠ .off) (hi : r.state = .idle) (hl : is = true) :
      Step levelType was is r
        { r with admission := a, state := .pending, count := 1, firstTime := some t, lastTime := some t }
  | withdrawn (hp : r.state = .pending) : Step levelType was is r { r.emptied with state := .idle }
  | admissionOff : Step levelType was is r r.admissionOff

/-- Nothing but sources, sessions, lines and the frame on LTX may differ in what the laws read, and these in `sources` and
`sessions` alone. -/
structure State.SameElsewhere (s t : State) : Prop where
  phase : t.phase = s.phase
  levelType : ∀ x, t.isLevelType x = s.isLevelType x
  onLine : t.onLine = s.onLine

/-- One happening of the running part, as far as the laws of sources, sessions and the frame on LTX see it. -/
inductive State.Happening (s : State) : State → Prop
  | elsewhere {t : State} (h : s.SameElsewhere t) (ha : ∀ x, t.isAsserted x = s.isAsserted x)
      (hx : ∀ x, t.source x = s.source x) (hs : ∀ d, t.session d = s.session d) : Happening s t
  | source {t : State} (x : SourceId) (h : s.SameElsewhere t) (ha : ∀ y, y ≠ x → t.isAsserted y = s.isAsserted y)
      (hx : (s.source x).Step (t.isLevelType x) (s.isAsserted x) (t.isAsserted x) (t.source x))
      (hy : ∀ y, y ≠ x → t.source y = s.source y) (hs : ∀ d, t.session d = s.session d) : Happening s t
  | lineConfigured (n : LineId) (l : Line) (hi : (s.source (lineSource n)).state = .idle) : Happening s (s.setLine n l)
  | status (d : Deliv) (st : SessionStatus) (p : Params)
      (hst : st = .active p ∨ st = .stalled p ∧ (s.session d).isActive = false)
      (hp : p.Lawful ∨ (s.session d).params = some p)
      (hq : ∀ q ∈ (s.session d).params, (p.mode = q.mode ∧ p.window = q.window) ∨ (s.session d).load = 0) :
      Happening s (s.setSession d { s.session d with status := st })
  | accepted (d : Deliv) (o : Offer) (h : (s.session d).offers.find? (fun q => q.dn == o.dn) = some o) :
      Happening s (s.acceptOffer d o)
  | returned (d : Deliv) (o : Offer) (n : Nat) (h : (s.session d).offers.find? (fun q => q.dn == o.dn) = some o) :
      Happening s (s.giveBack d o n)
  | finished (d : Deliv) (x : SourceId) (hs : (s.source x).state = .inService) (hh : (s.source x).holder = some d) :
      Happening s (s.finish d x)
  | finishedTop (d : Deliv) (e : Entry) (h : (s.session d).inService.getLast? = some e) :
      Happening s (s.finishTop d e.source)
  | closed (d : Deliv) : Happening s (s.closeSession d)
  | stalled (d : Deliv) (p : Params) (dn : Byte) (h : (s.session d).status = .active p) :
      Happening s (s.stallSession d p dn)
  | owed (d : Deliv) (dn : Byte) (o : Offer) (h : (s.session d).offers.find? (fun q => q.dn == dn) = some o)
      (ha : o.ackDeadline.isSome = true) (hn : o.sendNumber ≤ 7 ∨ ∃ p, (s.session d).params = some p ∧ o.sendNumber ≤ p.retryLimit) :
      Happening s (s.setSession d { s.session d with
        offers := updateFirst (fun q => q.dn == dn) Offer.owed (s.session d).offers })
  | frameStarts (h : s.transmitter.frame = none) : Happening s s.pickFrame
  | frameGone (h : ∀ d dn, s.onLine ≠ some (.evt d dn)) : Happening s s.frameGone
  | evtGone (d : Deliv) (dn : Byte) (h : s.onLine = some (.evt d dn)) : Happening s (s.frameGone.startAckDeadline d dn)
  | resetFull {t : State} (hp : t.phase = s.phase) (hx : ∀ x, t.source x = Source.reset) (hs : ∀ d, t.session d = Session.reset) :
      Happening s t
  | resetDelivery : Happening s s.resetDelivery

/-- A chain of happenings. -/
abbrev State.Runs (s t : State) : Prop := Relation.ReflTransGen State.Happening s t

/-- An answer whose next state is a chain of happenings from `s`. -/
abbrev Answer.RunsFrom (a : Answer) (s : State) : Prop := s.Runs a.next

/-! ## The three ways a command can end -/

/-- A part that is held in reset stays held, with its sources, sessions and the types of its sources as they were and nothing
on the link or at the ticks begun (R168). -/
structure State.StaysHeld (s t : State) : Prop where
  before : s.phase ≠ .running
  after : t.phase ≠ .running
  elsewhere : ∀ x, t.isLevelType x = s.isLevelType x
  source : ∀ x, t.source x = s.source x
  session : ∀ d, t.session d = s.session d
  frame : t.transmitter.frame = s.transmitter.frame
  arrivals : t.receiver.arrivals = s.receiver.arrivals
  nextTick : t.timeUnit.nextTick = s.timeUnit.nextTick

/-- Every source and session stands at its reset value, and a part still held has nothing on the link and no tick marked
(R22, R90, R140, R168). -/
structure State.Restarted (t : State) : Prop where
  source : ∀ x, t.source x = Source.reset
  session : ∀ d, t.session d = Session.reset
  held : t.phase ≠ .running → t.transmitter.frame = none ∧ t.receiver.arrivals = [] ∧ t.timeUnit.nextTick = none

/-- The three things a command can do to the records that the laws of delivery read. -/
inductive State.Outcome (s t : State) : Prop
  | runs (hp : s.phase = .running) (h : s.Runs t)
  | held (h : s.StaysHeld t)
  | restarted (h : t.Restarted)

/-! ## Step 5 of R176 -/

/-- What step 5 of R176 says of an answer `a`, with `bad` when a field is out of its range. -/
def Answer.FieldChecked (a : Answer) (s : State) (bad : Bool) : Prop :=
  (bad = true → a = .refuse .badField s) ∧ (bad = false → a.status ≠ .badField)

/-! ## What the samples of lines make of a state (R106, R107, R109, R133) -/

/-- The filtered level of the line changes at a sample of this level (R107). -/
def Line.changesAt (l : Line) (level : Bool) : Bool := decide (level ≠ l.filtered ∧ l.filter ≤ l.runCount)

/-- The report of the line at a sample of this level (R109). -/
def Line.reportAt (l : Line) (level : Bool) : Report := if l.changesAt level then l.sense.report level else .nothing

/-- The line's record after a sample of this level (R106, R107). -/
def Line.sampledAt (l : Line) (level : Bool) : Line :=
  if level = l.filtered then { l with raw := level, runCount := 0 }
  else if l.runCount < l.filter then { l with raw := level, runCount := l.runCount + 1 }
  else { l with raw := level, filtered := level, runCount := 0 }

/-- A timer after line `n` has made a report that counts or not (R133). -/
def Timer.afterReport (t : Timer) (n : LineId) (counts : Bool) : Timer :=
  if t.mode = .gap ∧ t.state ≠ .stopped ∧ t.watched = n ∧ counts = true then t.restarted else t

/-- The state after line `n` has taken the record `l`, its source the report, the timers what it counts, and the alert
output the value `a`. -/
def State.reported (s : State) (n : LineId) (l : Line) (report : Report) (a : Alert) : State :=
  (((s.setLine n l).setSource (lineSource n) ((s.source (lineSource n)).reportTaken report s.now)).setTimers
    (Vector.ofFn fun k => (s.timer k).afterReport n ((s.source (lineSource n)).counts report))).setAlertBlock a

/-- The line's record after a sample in reset: both levels at the pin. -/
def Line.followed (l : Line) (level : Bool) : Line := { l with raw := level, filtered := level }

/-- A timer after counted occurrences that it hears or not: a GAP timer at work restarts at those it hears (R133). -/
def Timer.restartedFor (t : Timer) (hears : Bool) : Timer :=
  if t.mode = .gap ∧ t.state ≠ .stopped ∧ hears = true then t.restarted else t

/-- What the samples of the lines `ns` make of `s`, record by record (R106, R107, R109, R133). -/
structure State.Sampled (s : State) (levels : BitVec 24) (ns : List LineId) (t : State) : Prop where
  only : ∃ ls src ts a, t = (((s.setLines ls).setSources src).setTimers ts).setAlertBlock a
  line : ∀ n, t.line n = if n ∈ ns then (s.line n).sampledAt (levels.getLsbD n.val) else s.line n
  lineSource : ∀ n, t.source (lineSource n) =
    if n ∈ ns then (s.source (lineSource n)).reportTaken ((s.line n).reportAt (levels.getLsbD n.val)) s.now
    else s.source (lineSource n)
  timerSource : ∀ k, t.source (timerSource k) = s.source (timerSource k)
  timer : ∀ k, t.timer k =
    if (s.timer k).watched ∈ ns then
      (s.timer k).afterReport (s.timer k).watched ((s.source (Machine.lineSource (s.timer k).watched)).counts
        ((s.line (s.timer k).watched).reportAt (levels.getLsbD (s.timer k).watched.val)))
    else s.timer k
  enabled : t.alert.enabled = s.alert.enabled
  mode : t.alert.mode = s.alert.mode
  quiet : (∀ n ∈ ns, (s.line n).changesAt (levels.getLsbD n.val) = false) → t.alert = s.alert

/-- Two states with the sources, the alert output and the times alike, and with the lines `ns` alike: what the reports and
the judgements of those lines read. -/
structure State.AlikeOn (ns : List LineId) (s t : State) : Prop where
  clock : s.clock = t.clock
  now : s.now = t.now
  sources : s.sources = t.sources
  alert : s.alert = t.alert
  line : ∀ n ∈ ns, s.line n = t.line n

end Sys2Proof.Machine
end

section
/-! The laws of one source record, and what each change of a record keeps of them. -/

namespace Sys2Proof.Machine

/-! ## The laws of one source record -/

theorem Source.Lawful.not_out_of_level {r : Source} (h : r.Lawful true) (ho : r.IsOut) : r.count = 0 := by
  obtain ⟨-, -, -, -, -, -, -, -, hl, -⟩ := h
  exact hl rfl ho

theorem Source.reset_lawful (levelType : Bool) : Source.reset.Lawful levelType := by
  simp [Source.Lawful, Source.reset]

/-- An IDLE record keeps its laws whatever the type of its source (R2). -/
theorem Source.Lawful.of_idle {r : Source} {l : Bool} (l' : Bool) (h : r.Lawful l) (hi : r.state = .idle) :
    r.Lawful l' := by
  obtain ⟨h1, h2, h3, h4, h5, h6, h7, -, -, h10⟩ := h
  exact ⟨h1, h2, h3, h4, h5, h6, h7, fun _ => by simp [h3 hi], fun _ ho => by simp [hi] at ho, h10⟩

/-- The four fields of CONFIG_SOURCE stand in no law of the record (R13). -/
theorem Source.Lawful.configured {r : Source} {l : Bool} (h : r.Lawful l) (p : Priority) (primary fallback : Option Deliv)
    (c : Completion) :
    { r with priority := p, primary := primary, fallback := fallback, completion := c }.Lawful l := h

theorem Source.Lawful.holdEnded {r : Source} {l : Bool} (h : r.Lawful l) : { r with holdUntil := none }.Lawful l := by
  obtain ⟨h1, h2, h3, h4, h5, h6, h7, h8, h9, h10⟩ := h
  exact ⟨h1, h2, h3, h4, h5, h6, h7, h8, h9, fun ha => ⟨(h10 ha).1, (h10 ha).2.1, rfl⟩⟩

theorem Source.Lawful.held {r : Source} {l : Bool} (h : r.Lawful l) (ha : r.admission ≠ .off) (t : Option Instant) :
    { r with holdUntil := t }.Lawful l := by
  obtain ⟨h1, h2, h3, h4, h5, h6, h7, h8, h9, -⟩ := h
  exact ⟨h1, h2, h3, h4, h5, h6, h7, h8, h9, fun ha' => absurd ha' ha⟩

theorem Source.Lawful.admitted {r : Source} {l : Bool} (h : r.Lawful l) {a : Admission} (ha : a ≠ .off) :
    { r with admission := a }.Lawful l := by
  obtain ⟨h1, h2, h3, h4, h5, h6, h7, h8, h9, -⟩ := h
  exact ⟨h1, h2, h3, h4, h5, h6, h7, h8, h9, fun ha' => absurd ha' ha⟩

theorem Source.Lawful.admissionOff {r : Source} {l : Bool} (h : r.Lawful l) : r.admissionOff.Lawful l := by
  obtain ⟨h1, -⟩ := h
  cases hs : r.state <;> simp [Source.Lawful, Source.admissionOff, Source.emptied, hs] <;> simpa [hs] using h1

/-- A counted occurrence of an edge-type source keeps the laws (R4, R5). -/
theorem Source.Lawful.occurrenceTaken {r : Source} (h : r.Lawful false) (t : Tick) : (r.occurrenceTaken t).Lawful false := by
  obtain ⟨h1, h2, h3, h4, h5, h6, h7, -, -, h10⟩ := h
  unfold Source.occurrenceTaken
  split
  · exact ⟨h1, h2, h3, h4, h5, h6, h7, nofun, nofun, h10⟩
  · rename_i ha
    cases hs : r.state <;> simp [Source.Lawful, hs, ha] at h1 ⊢ <;> exact h1

/-- A record raised to PENDING with one occurrence (R6, R12, R18, R23). -/
theorem Source.raisedAt_lawful {r : Source} (l : Bool) (ha : r.admission ≠ .off) (t : Tick) : (r.raisedAt t).Lawful l := by
  simp [Source.Lawful, Source.raisedAt, ha]

/-- A record raised to PENDING by an assertion from IDLE (R6, R12). -/
theorem Source.Lawful.asserted {r : Source} {l : Bool} (h : r.Lawful l) (hi : r.state = .idle) {a : Admission}
    (ha : a ≠ .off) (t : Tick) :
    { r with
      admission := a, state := .pending, count := 1, firstTime := some t, lastTime := some t }.Lawful l := by
  obtain ⟨h1, -⟩ := h
  simpa [Source.Lawful, hi, ha] using h1

/-- A record sent IDLE keeps the law of admission OFF (R9). -/
theorem Source.Lawful.sentIdle {r : Source} {l : Bool} (h : r.Lawful l) : r.sentIdle.Lawful l := by
  obtain ⟨-, -, -, -, -, -, -, -, -, h10⟩ := h
  simp [Source.Lawful, Source.sentIdle, Source.emptied]
  exact fun ha => (h10 ha).2.2

/-- A deassertion withdraws a PENDING record (R7). -/
theorem Source.Lawful.deasserted {r : Source} {l : Bool} (h : r.Lawful l) (hp : r.state = .pending) :
    { r.emptied with state := .idle }.Lawful l := by
  have hn : r.holder = none := by
    have := h.1
    simpa [hp] using this
  have e : { r.emptied with state := .idle } = r.sentIdle := by simp [Source.sentIdle, Source.emptied, hn]
  rw [e]
  exact h.sentIdle

/-- A claim empties the record and gives it a holder (R14). -/
theorem Source.Lawful.claimed {r : Source} {l : Bool} (ha : r.admission = .on) (d : Deliv) : (r.claimed d).Lawful l := by
  simp [Source.Lawful, Source.claimed, Source.emptied, ha]

/-- An acceptance under MANUAL takes an OFFERED record IN_SERVICE (R57). -/
theorem Source.Lawful.accepted {r : Source} {l : Bool} (h : r.Lawful l) (ho : r.state = .offered) (d : Deliv) :
    { r with state := .inService, holder := some d }.Lawful l := by
  obtain ⟨-, -, -, h4, h5, h6, h7, h8, h9, h10⟩ := h
  simp [ho] at h9 h10
  simp [Source.Lawful]
  exact ⟨h4, h5, h6, h7, h8, h9, h10⟩

/-- The merge of a lawful offer keeps the laws (R17). -/
theorem Source.Lawful.merged {r : Source} {l : Bool} (h : r.Lawful l) {o : Offer} (ho : o.Lawful) (a : Bool) :
    (r.merged o l a).Lawful l := by
  obtain ⟨c1, -, c3, c4, -⟩ := ho
  unfold Source.merged
  split
  · exact h.sentIdle
  · rename_i ha
    cases l
    · obtain ⟨-, -, -, -, h5, -⟩ := h
      simp [Source.Lawful, ha, c3]
      refine ⟨by simp [Config.countLimit]; omega, by simp [Config.countLimit]; omega, ?_, by simp [Config.countLimit],
        fun _ => by simp [Config.countLimit]; omega⟩
      split <;> simp_all [Config.countLimit]; omega
    · cases a
      · exact h.sentIdle
      · simp [Source.Lawful, ha, c3, c4]

/-- The post-completion rule keeps the laws (R18). -/
theorem Source.Lawful.completed {r : Source} {l : Bool} (h : r.Lawful l) (a : Bool) (now : Tick) :
    (r.completed l a now).Lawful l := by
  unfold Source.completed
  split
  · exact h.sentIdle
  · rename_i ha
    cases l
    · split
      · contradiction
      split
      · obtain ⟨-, -, -, h4, h5, h6, h7, -, -, -⟩ := h
        simp [Source.Lawful, ha]
        exact ⟨by omega, h4, h5, h6, h7⟩
      · exact h.sentIdle
    · cases a
      · exact h.sentIdle
      · exact Source.raisedAt_lawful true ha now

/-- A record whose delivery state a RESET DELIVERY has cleared (R23). -/
theorem Source.cleared_lawful (r : Source) (l : Bool) : r.cleared.Lawful l := by
  simp [Source.Lawful, Source.cleared, Source.sentIdle, Source.emptied]

/-! ## A source that comes home is out no more -/

theorem Source.not_out_of_idle {r : Source} (h : r.state = .idle) : ¬ r.IsOut := by simp [Source.IsOut, h]

theorem Source.not_out_of_pending {r : Source} (h : r.state = .pending) : ¬ r.IsOut := by simp [Source.IsOut, h]

/-- A merged source is IDLE or PENDING, and a level-type one PENDING only with its line asserted (R17). -/
theorem Source.merged_state (r : Source) (o : Offer) (l a : Bool) :
    (r.merged o l a).state = .idle ∨ (r.merged o l a).state = .pending ∧ (l = true → a = true) := by
  unfold Source.merged
  split
  · exact .inl rfl
  · cases l
    · exact .inr ⟨rfl, nofun⟩
    · cases a
      · exact .inl rfl
      · exact .inr ⟨rfl, fun _ => rfl⟩

/-- A completed source is IDLE or PENDING, and a level-type one PENDING only with its line asserted (R18). -/
theorem Source.completed_state (r : Source) (l a : Bool) (now : Tick) :
    (r.completed l a now).state = .idle ∨ (r.completed l a now).state = .pending ∧ (l = true → a = true) := by
  unfold Source.completed
  split
  · exact .inl rfl
  · cases l
    · by_cases hc : 0 < r.count
      · exact .inr ⟨by simp [hc], nofun⟩
      · exact .inl (by simp [hc]; rfl)
    · cases a
      · exact .inl rfl
      · exact .inr ⟨rfl, fun _ => rfl⟩

theorem Source.merged_not_out (r : Source) (o : Offer) (l a : Bool) : ¬ (r.merged o l a).IsOut := by
  obtain h | ⟨h, -⟩ := r.merged_state o l a
  · exact Source.not_out_of_idle h
  · exact Source.not_out_of_pending h

theorem Source.completed_not_out (r : Source) (l a : Bool) (now : Tick) : ¬ (r.completed l a now).IsOut := by
  obtain h | ⟨h, -⟩ := r.completed_state l a now
  · exact Source.not_out_of_idle h
  · exact Source.not_out_of_pending h

end Sys2Proof.Machine
end

section
/-! The laws of one session record, and what each change of its lists keeps of them. -/

namespace Sys2Proof.Machine

/-! ## The first offer that meets a condition -/

/-- `updateFirst` changes the offer that `find?` finds and no other. -/
theorem updateFirst_of_find? {p : Offer → Bool} {l : List Offer} {o : Offer} (h : l.find? p = some o) :
    ∃ before after, l = before ++ o :: after ∧ (∀ q ∈ before, p q = false) ∧ p o = true ∧
      ∀ f, updateFirst p f l = before ++ f o :: after := by
  induction l with
  | nil => simp at h
  | cons q l ih =>
    by_cases hq : p q = true
    · obtain rfl : q = o := by simpa [hq] using h
      exact ⟨[], l, rfl, by simp, hq, fun f => by simp [updateFirst, hq]⟩
    · have hl : l.find? p = some o := by simpa [hq] using h
      obtain ⟨before, after, rfl, hb, ho, hf⟩ := ih hl
      exact ⟨q :: before, after, rfl, by simpa [hq] using hb, ho, fun f => by simp [updateFirst, hq, hf]⟩

/-- With no offer that meets the condition `updateFirst` changes nothing. -/
theorem updateFirst_of_find?_none {p : Offer → Bool} {f : Offer → Offer} {l : List Offer} (h : l.find? p = none) :
    updateFirst p f l = l := by
  induction l with
  | nil => rfl
  | cons q l ih =>
    obtain ⟨hq, hl⟩ : ¬ p q = true ∧ l.find? p = none := by simpa using h
    simp [updateFirst, hq, ih hl]

/-- Where the DNs of a list differ, the offer named by a DN is the only one of that DN (R41). -/
theorem dn_ne_of_nodup {before after : List Offer} {o q : Offer}
    (h : ((before ++ o :: after).map Offer.dn).Nodup) (hq : q ∈ before ∨ q ∈ after) : q.dn ≠ o.dn := by
  simp only [List.map_append, List.map_cons, List.nodup_append, List.nodup_cons, List.mem_map, List.mem_cons] at h
  obtain ⟨-, ⟨ha, -⟩, hd⟩ := h
  obtain hq | hq := hq
  · exact hd _ ⟨q, hq, rfl⟩ _ (.inl rfl)
  · exact fun e => ha ⟨q, hq, e⟩

/-! ## One session record -/

theorem Session.params_of_isActive_false {v : Session} (h : v.params = none) : v.isActive = false := by
  unfold Session.params at h
  unfold Session.isActive
  split at h <;> simp_all

theorem Session.isActive_iff {v : Session} : v.isActive = true ↔ ∃ p, v.status = .active p := by
  unfold Session.isActive
  split <;> simp_all

/-- The parameters and the activity of a session are those of its status (R75). -/
theorem Session.params_congr {v w : Session} (h : w.status = v.status) : w.params = v.params := by
  simp [Session.params, h]

theorem Session.isActive_congr {v w : Session} (h : w.status = v.status) : w.isActive = v.isActive := by
  simp [Session.isActive, h]

theorem Session.reset_lawful : Session.reset.Lawful := by
  simp [Session.Lawful, Session.reset, Session.params, Session.isActive]

/-- Entries that leave the lists take no law away. -/
theorem Session.Lawful.of_sublist {v w : Session} (h : v.Lawful) (hs : w.status = v.status)
    (ho : w.offers.Sublist v.offers) (hi : w.inService.Sublist v.inService) : w.Lawful := by
  obtain ⟨hd, hl, ha, hp, hq⟩ := h
  have hload : w.load ≤ v.load := Nat.add_le_add ho.length_le hi.length_le
  refine ⟨hd.sublist (ho.map _), fun o m => hl o (ho.subset m), ?_, ?_, ?_⟩
  · rw [Session.isActive_congr hs]
    intro h
    exact List.sublist_nil.mp (ha h ▸ ho)
  · rw [Session.params_congr hs]
    intro h
    exact List.sublist_nil.mp (hp h ▸ hi)
  · rw [Session.params_congr hs]
    intro p m
    obtain ⟨h1, h2, h3, h4, h5⟩ := hq p m
    refine ⟨h1, ho.length_le.trans h2, hload.trans h3, fun hm => ⟨(h4 hm).1.sublist (hi.map _), ?_⟩,
      fun hm => hload.trans (h5 hm)⟩
    exact fun o m e m' => (h4 hm).2 o (ho.subset m) e (hi.subset m')

/-- An offer replaced by another of its DN and priority takes no law away. -/
theorem Session.Lawful.replaced {v : Session} {before after : List Offer} {o o' : Offer} (h : v.Lawful)
    (hs : v.offers = before ++ o :: after) (hdn : o'.dn = o.dn) (hp : o'.priority = o.priority) (hl : o'.Lawful) :
    { v with offers := before ++ o' :: after }.Lawful := by
  obtain ⟨h1, h2, h3, h4, h5⟩ := h
  rw [hs] at h1 h2 h3
  have hactive : v.isActive = false → before ++ o' :: after = [] := fun ha => absurd (h3 ha) (by simp)
  refine ⟨by simpa [hdn] using h1, ?_, hactive, h4, ?_⟩
  · simp only [List.mem_append, List.mem_cons] at h2 ⊢
    rintro q (hq | rfl | hq)
    · exact h2 q (.inl hq)
    · exact hl
    · exact h2 q (.inr (.inr hq))
  · intro p m
    obtain ⟨g1, g2, g3, g4, g5⟩ := h5 p m
    simp only [Session.load, hs] at g2 g3 g4 g5
    refine ⟨g1, by simpa using g2, by simpa [Session.load] using g3, fun hm => ⟨(g4 hm).1, ?_⟩,
      fun hm => by simpa [Session.load] using g5 hm⟩
    intro q hq e he
    have := (g4 hm).2
    simp only [List.mem_append, List.mem_cons] at this hq
    obtain hq | rfl | hq := hq
    · exact this q (.inl hq) e he
    · exact hp ▸ this o (.inr (.inl rfl)) e he
    · exact this q (.inr (.inr hq)) e he

/-- The state of a session changes to ACTIVE, or to STALLED from a session that is not ACTIVE, with parameters that are
lawful or those it has; mode and window change with empty lists alone (R78, R84, R87). -/
theorem Session.Lawful.withStatus {v : Session} {st : SessionStatus} {p : Params} (h : v.Lawful)
    (hst : st = .active p ∨ st = .stalled p ∧ v.isActive = false) (hp : p.Lawful ∨ v.params = some p)
    (hq : ∀ q ∈ v.params, (p.mode = q.mode ∧ p.window = q.window) ∨ v.load = 0) : { v with status := st }.Lawful := by
  obtain ⟨h1, h2, h3, h4, h5⟩ := h
  have hpar : ({ v with status := st } : Session).params = some p := by
    obtain rfl | ⟨rfl, -⟩ := hst <;> rfl
  have hlaw : p.Lawful := hp.elim id fun e => (h5 p e).1
  refine ⟨h1, h2, ?_, by simp [hpar], ?_⟩
  · obtain rfl | ⟨rfl, ha⟩ := hst
    · simp [Session.isActive]
    · exact fun _ => h3 ha
  · rw [hpar]
    rintro _ ⟨⟩
    have hempty : v.load = 0 → v.offers = [] ∧ v.inService = [] := by simp [Session.load]
    have hcase : (∃ q ∈ v.params, p.mode = q.mode ∧ p.window = q.window) ∨ v.offers = [] ∧ v.inService = [] := by
      cases hv : v.params with
      | none => exact .inr ⟨h3 (Session.params_of_isActive_false hv), h4 hv⟩
      | some q => exact (hq q hv).imp (fun e => ⟨q, rfl, e⟩) hempty
    obtain ⟨q, m, em, ew⟩ | ⟨eo, ei⟩ := hcase
    · obtain ⟨-, g2, g3, g4⟩ := h5 q m
      exact ⟨hlaw, ew ▸ g2, g3, em ▸ g4⟩
    · exact ⟨hlaw, by simp [eo], by simp [Session.load, eo, ei], by simp [eo, ei], by simp [Session.load, eo, ei]⟩

/-- A session with empty lists and no parameters (R80). -/
theorem Session.closed_lawful (v : Session) (k : StallRecord) :
    { v with status := .closed, offers := [], inService := [], stall := k }.Lawful := by
  simp [Session.Lawful, Session.params, Session.isActive]

/-- A stall empties the offer list and keeps the in-service list and the parameters (R53). -/
theorem Session.Lawful.stalled {v : Session} {p : Params} (h : v.Lawful) (hs : v.status = .active p) (k : StallRecord) :
    { v with status := .stalled p, offers := [], stall := k }.Lawful := by
  obtain ⟨-, -, -, -, h5⟩ := h
  obtain ⟨g1, -, g3, g4, g5⟩ := h5 p (by simp [Session.params, hs])
  simp only [Session.load] at g3 g5
  simp only [Session.Lawful, Session.params, Session.isActive, Session.load, Session.ModeLaw]
  refine ⟨by simp, by simp, by simp, by simp, ?_⟩
  rintro _ ⟨⟩
  exact ⟨g1, by simp, by simp; omega, fun hm => ⟨(g4 hm).1, by simp⟩, fun hm => by have := g5 hm; simp; omega⟩

end Sys2Proof.Machine
end

section
/-! The DN of a new offer, the conditions on a session for one, and the laws a new entry keeps. -/

namespace Sys2Proof.Machine

/-! ## The DN of a new offer (R41) -/

/-- Counting upward passes values in use alone and stops at the first free one, unless its fuel is used up. -/
theorem freeDN_spec (fuel : Nat) (dn : Byte) (used : List Byte) :
    ∃ n ≤ fuel, freeDN fuel dn used = dn + byteOf n ∧ (∀ j < n, dn + byteOf j ∈ used) ∧
      (n < fuel → dn + byteOf n ∉ used) := by
  induction fuel generalizing dn with
  | zero => exact ⟨0, le_refl 0, by simp [freeDN, byteOf], by simp, by simp⟩
  | succ fuel ih =>
    by_cases h : dn ∈ used
    · obtain ⟨n, hn, he, hj, hf⟩ := ih (dn + 1)
      have hs : ∀ j, dn + 1 + byteOf j = dn + byteOf (j + 1) := fun j => by
        simp [byteOf, BitVec.ofNat_add, BitVec.add_assoc, BitVec.add_comm (BitVec.ofNat 8 j)]
      refine ⟨n + 1, by omega, ?_, ?_, fun hlt => hs n ▸ hf (by omega)⟩
      · rw [← hs, ← he, freeDN, if_pos (by simpa using h)]
      rintro (_ | j) hlt
      · simpa [byteOf] using h
      · exact hs j ▸ hj j (by omega)
    · exact ⟨0, by omega, by simp [freeDN, h, byteOf], by simp, by simpa [byteOf] using h⟩

/-- Of more consecutive values than a list has entries one is not in it. -/
theorem not_mem_of_consecutive {dn : Byte} {used : List Byte} (hl : used.length ≤ 255)
    (h : ∀ j < used.length, dn + byteOf j ∈ used) : dn + byteOf used.length ∉ used := by
  intro hm
  have hinj : Set.InjOn (fun j => dn + byteOf j) (Finset.range (used.length + 1)) := by
    intro a ha b hb e
    simp only [Finset.coe_range, Set.mem_Iio] at ha hb
    have e' : byteOf a = byteOf b := by simpa using e
    have := congrArg BitVec.toNat e'
    simp only [byteOf_toNat] at this
    omega
  have hsub : (Finset.range (used.length + 1)).image (fun j => dn + byteOf j) ⊆ used.toFinset := by
    intro b hb
    obtain ⟨j, hj, rfl⟩ := Finset.mem_image.mp hb
    rw [List.mem_toFinset]
    obtain hj | rfl : j < used.length ∨ j = used.length := by
      have := Finset.mem_range.mp hj
      omega
    · exact h j hj
    · exact hm
  have hcard := Finset.card_le_card hsub
  rw [Finset.card_image_of_injOn hinj, Finset.card_range] at hcard
  have := used.toFinset_card_le
  omega

/-- The DN of the next offer is the first value from next DN that no offer of the list holds (R41). -/
theorem Session.assignDN_spec (v : Session) (h : v.offers.length ≤ 255) :
    ∃ n ≤ v.offers.length, v.assignDN = v.nextDN + byteOf n ∧ v.assignDN ∉ v.offers.map Offer.dn ∧
      ∀ j < n, v.nextDN + byteOf j ∈ v.offers.map Offer.dn := by
  obtain ⟨n, hn, he, hj, hf⟩ := freeDN_spec v.offers.length v.nextDN (v.offers.map Offer.dn)
  have he' : v.assignDN = v.nextDN + byteOf n := he
  refine ⟨n, hn, he', ?_, hj⟩
  rw [he']
  obtain hlt | heq := Nat.lt_or_eq_of_le hn
  · exact hf hlt
  · have hlen : (v.offers.map Offer.dn).length = v.offers.length := List.length_map ..
    rw [heq, ← hlen]
    exact not_mem_of_consecutive (by omega) fun j hlt => hj j (by omega)

/-! ## The session side of eligibility (R29) -/

/-- The conditions on a session for a source of priority `p` (R29 to R34). -/
theorem Session.takes_iff (v : Session) (p : Priority) :
    v.takes p = true ↔ ∃ q, v.status = .active q ∧ q.threshold ≤ p ∧ v.offers.length < q.window ∧
      v.offers.length + v.inService.length < 8 ∧
      (q.mode = .nested → (∀ e ∈ v.inService, e.priority < p) ∧ ∀ o ∈ v.offers, o.priority < p) ∧
      (q.mode = .single → v.offers = [] ∧ v.inService = []) := by
  unfold Session.takes
  split
  case h_1 q hs =>
    rw [hs]
    have hcap : v.load < Config.sessionCapacity ↔ v.offers.length + v.inService.length < 8 := Iff.rfl
    cases hm : q.mode <;> simp [Session.modeAllows, hcap, hm, and_assoc]
  case h_2 hs => simp [hs]
  case h_3 hs => simp [hs]

/-- A session that takes a source has room for its offer: the window, the capacity and the mode hold with it. -/
theorem Session.Lawful.withOffer {v : Session} {o : Offer} (h : v.Lawful) (ht : v.takes o.priority = true)
    (hdn : o.dn = v.assignDN) (ho : o.Lawful) : (v.withOffer o).Lawful := by
  obtain ⟨h1, h2, -, h4, h5⟩ := h
  obtain ⟨q, hs, -, hw, hc, hn, hsg⟩ := (v.takes_iff _).mp ht
  have hpar : v.params = some q := by simp [Session.params, hs]
  obtain ⟨g1, -, -, g4, -⟩ := h5 q hpar
  have hfresh : o.dn ∉ v.offers.map Offer.dn := by
    obtain ⟨-, -, -, hf, -⟩ := v.assignDN_spec (by have := g1.2.1; omega)
    exact hdn ▸ hf
  have hpar' : (v.withOffer o).params = some q := hpar
  refine ⟨?_, ?_, ?_, fun e => by simp [hpar'] at e, ?_⟩
  · simp only [Session.withOffer, List.map_append, List.map_cons, List.map_nil]
    exact List.Nodup.append h1 (List.nodup_singleton _) (by simpa using hfresh)
  · simp only [Session.withOffer, List.mem_append, List.mem_singleton]
    rintro a (ha | rfl)
    · exact h2 a ha
    · exact ho
  · intro e
    have : (v.withOffer o).isActive = true := Session.isActive_iff.mpr ⟨q, hs⟩
    simp [this] at e
  · rw [hpar']
    rintro _ ⟨⟩
    refine ⟨g1, by simp [Session.withOffer]; omega, by simp [Session.withOffer, Session.load]; omega, fun hm => ⟨(g4 hm).1, ?_⟩,
      fun hm => by simp [Session.withOffer, Session.load, hsg hm]⟩
    simp only [Session.withOffer, List.mem_append, List.mem_singleton]
    rintro a (ha | rfl) e he
    · exact (g4 hm).2 a ha e he
    · exact (hn hm).1 e he

/-! ## One entry taken out of a list -/

/-- `eraseP` takes out the entry that `find?` finds and no other. -/
theorem eraseP_of_find? {α : Type} {p : α → Bool} {l : List α} {a : α} (h : l.find? p = some a) :
    ∃ before after, l = before ++ a :: after ∧ p a = true ∧ l.eraseP p = before ++ after := by
  obtain ⟨ha, before, after, rfl, hb⟩ := List.find?_eq_some_iff_append.mp h
  refine ⟨before, after, rfl, ha, ?_⟩
  rw [List.eraseP_append_right _ (by simpa using hb), List.eraseP_cons_of_pos ha]

/-- An acceptance under MANUAL moves an entry from one list to the other (R57): capacity and mode hold as before. -/
theorem Session.Lawful.accepted {v : Session} {o : Offer} (h : v.Lawful) (ho : v.offers.find? (fun q => q.dn == o.dn) = some o) :
    ({ v.withoutOffer o.dn with
      inService := v.inService ++ [{ source := o.source, priority := o.priority, dn := o.dn }] } : Session).Lawful := by
  obtain ⟨before, after, hs, -, he⟩ := eraseP_of_find? ho
  have hsub : (before ++ after).Sublist v.offers := hs ▸ by simp
  obtain ⟨h1, h2, h3, -, h5⟩ := h
  have hmem : o ∈ v.offers := hs ▸ by simp
  have hpar : ({ v.withoutOffer o.dn with
      inService := v.inService ++ [{ source := o.source, priority := o.priority, dn := o.dn }] } : Session).params =
      v.params := rfl
  have hne : v.params ≠ none := fun e => by
    have := h3 (Session.params_of_isActive_false e)
    simp [this] at hmem
  refine ⟨?_, ?_, ?_, fun e => absurd e hne, ?_⟩
  · simp only [Session.withoutOffer, he]
    exact h1.sublist (hsub.map _)
  · simp only [Session.withoutOffer, he]
    exact fun q hq => h2 q (hsub.subset hq)
  · intro e
    have := h3 e
    simp [this] at hmem
  · rw [hpar]
    intro p m
    obtain ⟨g1, g2, g3, g4, g5⟩ := h5 p m
    simp only [Session.load, hs, List.length_append, List.length_cons] at g2 g3 g5
    simp only [Session.withoutOffer, he, Session.load, Session.ModeLaw, List.length_append, List.length_cons, List.length_nil]
    refine ⟨g1, by omega, by omega, fun hm => ?_, fun hm => by have := g5 hm; omega⟩
    have hw : before ++ after = [] := by
      have := g1.2.2.1 hm
      rw [← List.length_eq_zero_iff, List.length_append]
      omega
    refine ⟨?_, by simp [hw]⟩
    simp only [List.map_append, List.map_cons, List.map_nil, List.pairwise_append]
    exact ⟨(g4 hm).1, by simp, by simpa using (g4 hm).2 o hmem⟩

end Sys2Proof.Machine
end

section
/-! The four laws of delivery together, session by session, and what a change of one session and of source records must
meet to keep them. -/

namespace Sys2Proof.Machine

/-! ## The laws session by session -/

theorem Source.SameAt.refl (e : Deliv) (r : Source) : r.SameAt e r := .inl ⟨rfl, rfl, rfl⟩

theorem State.listsMatchSources_iff (s : State) : s.ListsMatchSources ↔ ∀ d, (s.session d).Matches d s.source := Iff.rfl

theorem Session.SendsOn.of_subset {v w : Session} {d : Deliv} {k : Option TxKind} (h : v.SendsOn d k)
    (hs : w.offers ⊆ v.offers) : w.SendsOn d k := fun o m => h o (hs m)

theorem State.sendingIsOnLine_iff (s : State) : s.SendingIsOnLine ↔ ∀ d, (s.session d).SendsOn d s.onLine := Iff.rfl

/-! ## What the agreement of one session reads -/

/-- A source in a list of the session is out there. -/
theorem Session.Matches.outAt_of_mem {v : Session} {d : Deliv} {src : SourceId → Source} (h : v.Matches d src) {x : SourceId}
    (hx : x ∈ v.offers.map Offer.source ∨ x ∈ v.inService.map Entry.source) : (src x).OutAt d := by
  obtain ⟨-, -, -, -, hx'⟩ := h
  obtain hx | hx := hx
  · exact ⟨.inl ((hx' x).1.mp hx).1, ((hx' x).1.mp hx).2⟩
  · exact ⟨.inr ((hx' x).2.mp hx).1, ((hx' x).2.mp hx).2⟩

/-- A source out at the session stands in one of its lists. -/
theorem Session.Matches.mem_of_outAt {v : Session} {d : Deliv} {src : SourceId → Source} (h : v.Matches d src) {x : SourceId}
    (hx : (src x).OutAt d) : x ∈ v.offers.map Offer.source ∨ x ∈ v.inService.map Entry.source := by
  obtain ⟨-, -, -, -, hx'⟩ := h
  obtain ⟨hs | hs, hd⟩ := hx
  · exact .inl ((hx' x).1.mpr ⟨hs, hd⟩)
  · exact .inr ((hx' x).2.mpr ⟨hs, hd⟩)

/-- The agreement of a session reads no more of a source than it shows there. -/
theorem Session.Matches.congr {v : Session} {d : Deliv} {src src' : SourceId → Source} (h : v.Matches d src)
    (hs : ∀ x, (src x).SameAt d (src' x)) : v.Matches d src' := by
  have hpri : ∀ x, (src x).OutAt d → (src' x).priority = (src x).priority := fun x ho => by
    obtain ⟨-, -, hp⟩ | ⟨hn, -⟩ := hs x
    · exact hp
    · exact absurd ho hn
  obtain ⟨h1, h2, h3, h4, h5⟩ := h
  have hm : v.Matches d src := ⟨h1, h2, h3, h4, h5⟩
  refine ⟨h1, h2, fun o m => ?_, fun e m => ?_, fun x => ?_⟩
  · rw [h3 o m, hpri _ (hm.outAt_of_mem (.inl (List.mem_map_of_mem m)))]
  · rw [h4 e m, hpri _ (hm.outAt_of_mem (.inr (List.mem_map_of_mem m)))]
  · rw [(h5 x).1, (h5 x).2]
    obtain ⟨e1, e2, -⟩ | ⟨hn, hn'⟩ := hs x
    · rw [e1, e2]
      exact ⟨Iff.rfl, Iff.rfl⟩
    · exact ⟨⟨fun ⟨a, b⟩ => absurd ⟨.inl a, b⟩ hn, fun ⟨a, b⟩ => absurd ⟨.inl a, b⟩ hn'⟩,
        ⟨fun ⟨a, b⟩ => absurd ⟨.inr a, b⟩ hn, fun ⟨a, b⟩ => absurd ⟨.inr a, b⟩ hn'⟩⟩

/-- Entries leave the lists together with their sources: each source that left is out no more, and every other is as it
was and stands in the lists it stood in. -/
theorem Session.Matches.left {v w : Session} {d : Deliv} {src src' : SourceId → Source} (h : v.Matches d src)
    (ho : w.offers.Sublist v.offers) (hi : w.inService.Sublist v.inService)
    (hx : ∀ x,
      (src' x = src x ∧ (x ∈ v.offers.map Offer.source → x ∈ w.offers.map Offer.source) ∧
        (x ∈ v.inService.map Entry.source → x ∈ w.inService.map Entry.source)) ∨
      (¬ (src' x).IsOut ∧ x ∉ w.offers.map Offer.source ∧ x ∉ w.inService.map Entry.source)) :
    w.Matches d src' := by
  obtain ⟨h1, h2, h3, h4, h5⟩ := h
  have hsame : ∀ x, x ∈ w.offers.map Offer.source ∨ x ∈ w.inService.map Entry.source → src' x = src x := fun x m => by
    obtain ⟨e, -⟩ | ⟨-, n1, n2⟩ := hx x
    · exact e
    · exact (m.elim n1 n2).elim
  refine ⟨h1.sublist (ho.map _), h2.sublist (hi.map _), fun o m => ?_, fun e m => ?_, fun x => ?_⟩
  · rw [hsame _ (.inl (List.mem_map_of_mem m))]
    exact h3 o (ho.subset m)
  · rw [hsame _ (.inr (List.mem_map_of_mem m))]
    exact h4 e (hi.subset m)
  · obtain ⟨e, k1, k2⟩ | ⟨hn, n1, n2⟩ := hx x
    · rw [e, ← (h5 x).1, ← (h5 x).2]
      exact ⟨⟨fun m => (ho.map _).subset m, k1⟩, ⟨fun m => (hi.map _).subset m, k2⟩⟩
    · exact ⟨⟨fun m => absurd m n1, fun m => absurd (.inl m.1) hn⟩, ⟨fun m => absurd m n2, fun m => absurd (.inr m.1) hn⟩⟩

/-! ## What a change must meet to keep the laws -/

/-- A change of source records that no session sees. -/
theorem State.DeliveryLawful.of_sources {s t : State} (h : s.DeliveryLawful) (hs : ∀ d, t.session d = s.session d)
    (hf : t.onLine = s.onLine)
    (hx : ∀ x, (t.source x).Lawful (t.isLevelType x) ∧ ∀ d, (s.source x).SameAt d (t.source x)) : t.DeliveryLawful where
  sources := fun x => (hx x).1
  sessions := fun d => hs d ▸ h.sessions d
  lists := t.listsMatchSources_iff.mpr fun d => hs d ▸ (s.listsMatchSources_iff.mp h.lists d).congr fun x => (hx x).2 d
  sending := t.sendingIsOnLine_iff.mpr fun d => hs d ▸ hf ▸ h.sending d

/-- A change at session `d`: the other sessions, and what they show of the sources and of the line, are as they were. -/
theorem State.DeliveryLawful.of_session {s t : State} (h : s.DeliveryLawful) (d : Deliv) {w : Session}
    (hw : t.session d = w) (hs : ∀ e ≠ d, t.session e = s.session e)
    (hf : ∀ e ≠ d, ∀ dn, (t.onLine = some (.evt e dn) ↔ s.onLine = some (.evt e dn)))
    (hx : ∀ x, (t.source x).Lawful (t.isLevelType x) ∧ ∀ e ≠ d, (s.source x).SameAt e (t.source x))
    (hl : w.Lawful) (hm : w.Matches d t.source) (hd : w.SendsOn d t.onLine) :
    t.DeliveryLawful where
  sources := fun x => (hx x).1
  sessions := fun e => by
    by_cases he : e = d
    · exact he ▸ hw ▸ hl
    · exact hs e he ▸ h.sessions e
  lists := t.listsMatchSources_iff.mpr fun e => by
    by_cases he : e = d
    · exact he ▸ hw ▸ hm
    · exact hs e he ▸ (s.listsMatchSources_iff.mp h.lists e).congr fun x => (hx x).2 e he
  sending := t.sendingIsOnLine_iff.mpr fun e => by
    by_cases he : e = d
    · exact he ▸ hw ▸ hd
    · intro o m
      rw [hf e he, h.sending e o (hs e he ▸ m)]
      rfl

/-- Source `x`, with the laws of its record, is the only one that changes, and it is out at no session but `d`. -/
theorem State.sameAt_of_ne {s t : State} {d : Deliv} {x : SourceId}
    (hy : ∀ y, y ≠ x → t.source y = s.source y) (h0 : ∀ e ≠ d, ¬ (s.source x).OutAt e)
    (h1 : ∀ e ≠ d, ¬ (t.source x).OutAt e) (y : SourceId) (e : Deliv) (he : e ≠ d) :
    (s.source y).SameAt e (t.source y) := by
  by_cases hxy : y = x
  · exact .inr (hxy ▸ ⟨h0 e he, h1 e he⟩)
  · exact hy y hxy ▸ .refl e _

theorem Source.not_outAt_of_not_out {r : Source} (h : ¬ r.IsOut) (d : Deliv) : ¬ r.OutAt d := fun ho => h ho.1

theorem Source.OutAt.not_at_other {r : Source} {d e : Deliv} (h : r.OutAt d) (he : e ≠ d) : ¬ r.OutAt e := fun ho => by
  have := h.2.symm.trans ho.2
  simp only [Option.some.injEq] at this
  exact he this.symm

end Sys2Proof.Machine
end

section
/-! Reports, counted occurrences and coming home as the statements speak of them: the machine's operations are the terms
written from the rules (R5 to R8, R17, R18, R109, R128, R133). -/

namespace Sys2Proof.Machine

/-! ## Counted occurrences (R8, R128, R133) -/

/-- The load rule and the start of a timer are the restart of the statements (R128, R135). -/
theorem Timer.started_eq (t : Timer) : t.started = t.restarted := by
  rcases t with ⟨m, p, _ | q, r, st, w⟩ <;> rfl

/-- A counted occurrence that a timer hears restarts it when it is a GAP timer at work that watches the line (R133). -/
theorem Timer.heard_eq (n : LineId) (t : Timer) :
    t.heard n = if t.mode = .gap ∧ t.watched.val = (lineSource n).val ∧ t.state ≠ .stopped then t.restarted else t := by
  have h : t.watched = n ↔ t.watched.val = (lineSource n).val := Fin.ext_iff
  simp only [Timer.heard, Timer.started_eq, h]

/-- Writing the timer records as they stand changes nothing. -/
theorem State.setTimers_ofFn_timer (s : State) : s.setTimers (Vector.ofFn fun k => s.timer k) = s := by
  have h : (Vector.ofFn fun k => s.timer k) = s.timeUnit.timers := by
    ext k hk
    simp [State.timer]
  rw [h]
  rfl

/-- A source of no line is one of the eight TIMER sources (R1). -/
theorem lineOf_eq_none {x : SourceId} : lineOf x = none ↔ 24 ≤ x.val := by simp [lineOf]

/-- The line of a source has the number of the source (R1). -/
theorem lineOf_eq_some {x : SourceId} {n : LineId} : lineOf x = some n ↔ x = lineSource n := by
  constructor
  · intro h
    unfold lineOf at h
    split at h
    · cases h
      rfl
    · cases h
  · rintro rfl
    exact lineOf_lineSource n

/-- A counted occurrence restarts the GAP timers that watch the line of its source (R133). -/
theorem State.countedOccurrence_eq (s : State) (x : SourceId) : s.countedOccurrence x = s.restartGaps x := by
  unfold State.countedOccurrence State.restartGaps
  cases h : lineOf x with
  | none =>
    have hx := lineOf_eq_none.mp h
    have hk : ∀ k, (s.timer k).watched.val ≠ x.val := fun k => by omega
    simp only [hk, false_and, and_false, if_false]
    exact s.setTimers_ofFn_timer.symm
  | some n =>
    obtain rfl := lineOf_eq_some.mp h
    simp only [Timer.heard_eq]

/-! ## Reports (R5, R6, R7, R109) -/

theorem State.takeOccurrence_eq (s : State) (x : SourceId) (t : Tick) :
    s.takeOccurrence x t =
      if (s.source x).admission ≠ .off then (s.setSource x ((s.source x).occurrenceTaken t)).restartGaps x else s := by
  obtain ⟨ha, h⟩ | ⟨ha, h⟩ := s.takeOccurrence_cases x t
  · rw [h, if_neg (by simp [ha])]
  · rw [h, if_pos ha, ← Source.occurrenceTaken_eq _ _ ha, State.countedOccurrence_eq]

/-- A report as the source table takes it: the record is that of the rules, and a counted occurrence restarts the GAP timers
that watch the line (R5, R6, R7, R133). -/
theorem State.takeReport_eq (s : State) (n : LineId) (r : Report) :
    s.takeReport n r =
      (let changed := s.setSource (lineSource n) ((s.source (lineSource n)).reportTaken r s.now)
       if (s.source (lineSource n)).counts r then changed.restartGaps (lineSource n) else changed) := by
  cases r with
  | occurrence =>
    simp only [State.takeReport, State.takeOccurrence_eq, Source.counts, Source.reportTaken]
    by_cases ha : (s.source (lineSource n)).admission = .off
    · simp [ha, Source.occurrenceTaken, State.setSource_source]
    · simp [ha]
  | assertion =>
    simp only [State.takeReport, Source.counts, Source.reportTaken]
    obtain ⟨hi, ha, h⟩ | ⟨hn, h⟩ := s.takeAssertion_cases (lineSource n)
    · rw [h, State.countedOccurrence_eq]
      simp [hi, ha]
    · have hc : ¬((s.source (lineSource n)).admission ≠ .off ∧ (s.source (lineSource n)).state = .idle) :=
        fun h => hn h.symm
      rw [h, if_neg hn, State.setSource_source]
      simp only [bne_iff_ne, Bool.and_eq_true, beq_iff_eq, if_neg hc]
  | deassertion =>
    simp only [State.takeReport, Source.counts, Source.reportTaken]
    obtain ⟨hp, h⟩ | ⟨hn, h⟩ := s.takeDeassertion_cases (lineSource n)
    · rw [h]
      simp [hp, Source.emptied]
    · rw [h]
      simp [hn, State.setSource_source]
  | nothing => simp [State.takeReport, Source.counts, Source.reportTaken, State.setSource_source]

/-- A change of a filtered level as the machine takes it is that of the statements (R107, R109, R111). -/
theorem State.changeLevel_eq (s : State) (n : LineId) (level : Bool) : s.changeLevel n level = s.levelTaken n level := by
  simp only [State.changeLevel, State.takeReport_eq, State.levelTaken]
  rfl

/-! ## Admission (R10, R11, R12) -/

/-- SET_ADMIT's effect by the old and the new value (R10, R11, R12). -/
theorem State.changeAdmission_cases (s : State) (x : SourceId) (a : Admission) :
    ((s.source x).admission = .off ∧ a = .off ∧ s.changeAdmission x a = s) ∨
    ((s.source x).admission ≠ .off ∧ a = .off ∧ s.changeAdmission x a = s.setSource x (s.source x).admissionOff) ∨
    (a ≠ .off ∧ ((s.source x).admission ≠ .off ∨ ¬((s.source x).state = .idle ∧ s.isAsserted x = true)) ∧
      s.changeAdmission x a = s.setSource x { s.source x with admission := a }) ∨
    ((s.source x).admission = .off ∧ a ≠ .off ∧ (s.source x).state = .idle ∧ s.isAsserted x = true ∧
      s.changeAdmission x a =
        (s.setSource x { s.source x with
          admission := a, state := .pending, count := 1, firstTime := some s.now, lastTime := some s.now }).restartGaps
          x) := by
  by_cases hr : (s.source x).state = .idle ∧ s.isAsserted x = true
  · cases ho : (s.source x).admission <;> cases a <;>
      simp [State.changeAdmission, ho, hr.1, hr.2, State.countedOccurrence_eq]
  · cases ho : (s.source x).admission <;> cases a <;> simp [State.changeAdmission, ho, hr]

/-! ## What a change of level leaves -/

/-- A restart of GAP timers changes timer records alone. -/
theorem State.restartGaps_only (s : State) (x : SourceId) : ∃ ts, s.restartGaps x = s.setTimers ts := ⟨_, rfl⟩

/-- A change of level writes one line, one source, timers and the alert output (R107, R109). -/
theorem State.levelTaken_only (s : State) (n : LineId) (level : Bool) :
    ∃ ts a, s.levelTaken n level =
      (((s.setLine n { s.line n with raw := level, filtered := level, runCount := 0 }).setSource (lineSource n)
        ((s.source (lineSource n)).reportTaken ((s.line n).sense.report level) s.now)).setTimers ts).setAlertBlock a := by
  unfold State.levelTaken State.judged
  dsimp only
  split
  · exact ⟨_, _, rfl⟩
  · exact ⟨s.timeUnit.timers, _, rfl⟩

end Sys2Proof.Machine
end

section
/-! What a command can do to sources, sessions and the frame on LTX is a chain of happenings, each of one kind. The laws of
delivery are kept by each kind of happening that leaves the lists of the sessions alone. -/

namespace Sys2Proof.Machine

/-! ## What the operations leave -/

/-- A record left as it stands. -/
theorem Source.Step.stays {l was is : Bool} {r : Source}
    (hl : l = true → r.state = .pending → was = true → is = true) : r.Step l was is r :=
  .settings r.admission r.priority r.primary r.fallback r.completion r.holdUntil (.inl rfl) (.inl rfl) (.inl rfl) hl

theorem State.SameElsewhere.refl (s : State) : s.SameElsewhere s := ⟨rfl, fun _ => rfl, rfl⟩

/-- An operation that writes neither the phase, the lines nor the frame on LTX. -/
theorem State.SameElsewhere.of_blocks {s t : State} (hp : t.phase = s.phase) (hl : t.lines = s.lines)
    (hf : t.transmitter.frame = s.transmitter.frame) : s.SameElsewhere t :=
  ⟨hp, State.isLevelType_congr hl, by simp only [State.onLine, hf]⟩

/-- A write of one line is seen by its own source alone. -/
theorem State.isLevelType_setLine_of_ne (s : State) {n : LineId} (l : Line) {x : SourceId} (h : x ≠ lineSource n) :
    (s.setLine n l).isLevelType x = s.isLevelType x := by
  unfold State.isLevelType
  cases hx : lineOf x with
  | none => rfl
  | some m =>
    have hn : n ≠ m := fun e => h (lineOf_eq_some.mp (e ▸ hx))
    simp [hn]

/-! ## One source record -/

theorem Source.Lawful.settings {r : Source} {l : Bool} (h : r.Lawful l) {a : Admission} {hold : Option Instant} (p : Priority)
    (primary fallback : Option Deliv) (c : Completion) (ha : a = r.admission ∨ a ≠ .off)
    (hh : hold = r.holdUntil ∨ hold = none) :
    { r with admission := a, priority := p, primary := primary, fallback := fallback, completion := c, holdUntil := hold }.Lawful
      l := by
  obtain ⟨h1, h2, h3, h4, h5, h6, h7, h8, h9, h10⟩ := h
  refine ⟨h1, h2, h3, h4, h5, h6, h7, h8, h9, fun e => ?_⟩
  obtain ha | ha := ha
  · obtain ⟨k1, k2, k3⟩ := h10 (ha ▸ e)
    exact ⟨k1, k2, hh.elim (fun e => e.trans k3) id⟩
  · exact absurd e ha

/-- Every step of a record keeps its laws. -/
theorem Source.Step.lawful {r r' : Source} {l was is : Bool} (h : r.Lawful l) (hs : r.Step l was is r') : r'.Lawful l := by
  cases hs with
  | settings a p pr fb c hold ha _ hh _ => exact h.settings p pr fb c ha hh
  | occurs t hl => subst hl; exact h.occurrenceTaken t
  | raised a t ha hi _ => exact h.asserted hi ha t
  | withdrawn hp => exact h.deasserted hp
  | admissionOff => exact h.admissionOff

theorem Source.occurrenceTaken_fields (r : Source) (t : Tick) :
    (r.occurrenceTaken t).holder = r.holder ∧ (r.occurrenceTaken t).priority = r.priority ∧
      ((r.occurrenceTaken t).state = r.state ∨ r.state = .idle ∧ (r.occurrenceTaken t).state = .pending) := by
  unfold Source.occurrenceTaken
  split
  · exact ⟨rfl, rfl, .inl rfl⟩
  · by_cases hi : r.state = .idle <;> simp [hi]

/-- No session sees a step of a record. -/
theorem Source.Step.sameAt {r r' : Source} {l was is : Bool} (hs : r.Step l was is r') (d : Deliv) : r.SameAt d r' := by
  cases hs with
  | settings a p pr fb c hold _ hp _ _ =>
    obtain rfl | ho := hp
    · exact .inl ⟨rfl, rfl, rfl⟩
    · exact .inr ⟨fun k => ho k.1, fun k => ho k.1⟩
  | occurs t _ =>
    obtain ⟨hh, hp, hs | ⟨hi, hs⟩⟩ := r.occurrenceTaken_fields t
    · exact .inl ⟨hs, hh, hp⟩
    · exact .inr ⟨fun k => Source.not_out_of_idle hi k.1, fun k => Source.not_out_of_pending hs k.1⟩
  | raised a t _ hi _ => exact .inr ⟨fun k => Source.not_out_of_idle hi k.1, fun k => Source.not_out_of_pending rfl k.1⟩
  | withdrawn hp => exact .inr ⟨fun k => Source.not_out_of_pending hp k.1, fun k => Source.not_out_of_idle rfl k.1⟩
  | admissionOff =>
    unfold Source.admissionOff
    by_cases hp : r.state = .pending
    · simp only [hp]
      exact .inr ⟨fun k => Source.not_out_of_pending hp k.1, fun k => Source.not_out_of_idle rfl k.1⟩
    · simp only [hp]
      exact .inl ⟨rfl, rfl, rfl⟩

namespace State.DeliveryLawful

variable {s t : State}

/-- A source of a lawful state that stands in a list of session `d` is out there. -/
theorem offered_of_mem (h : s.DeliveryLawful) {d : Deliv} {o : Offer} (ho : o ∈ (s.session d).offers) :
    (s.source o.source).state = .offered ∧ (s.source o.source).holder = some d := by
  obtain ⟨-, -, -, -, hx⟩ := h.lists d
  exact (hx o.source).1.mp (List.mem_map_of_mem ho)

theorem keeps_elsewhere (h : s.DeliveryLawful) (ht : s.SameElsewhere t) (hx : ∀ x, t.source x = s.source x)
    (hs : ∀ d, t.session d = s.session d) : t.DeliveryLawful :=
  h.of_sources hs ht.onLine fun x => by
    rw [hx x, ht.levelType x]
    exact ⟨h.sources x, fun d => .refl d _⟩

theorem keeps_source (h : s.DeliveryLawful) {x : SourceId} (ht : s.SameElsewhere t) {l was is : Bool}
    (hl : l = t.isLevelType x) (hx : (s.source x).Step l was is (t.source x)) (hy : ∀ y, y ≠ x → t.source y = s.source y)
    (hs : ∀ d, t.session d = s.session d) : t.DeliveryLawful :=
  h.of_sources hs ht.onLine fun y => by
    by_cases hxy : y = x
    · subst hxy
      refine ⟨?_, hx.sameAt⟩
      have hl' : l = s.isLevelType y := hl.trans (ht.levelType y)
      have hlaw : (t.source y).Lawful l := Source.Step.lawful (hl' ▸ h.sources y) hx
      exact hl ▸ hlaw
    · rw [hy y hxy, ht.levelType y]
      exact ⟨h.sources y, fun d => .refl d _⟩

/-- The type of the one source whose sense changes is free while it is IDLE (R2, R114). -/
theorem keeps_lineConfigured (h : s.DeliveryLawful) {n : LineId} {l : Line} (hi : (s.source (lineSource n)).state = .idle) :
    (s.setLine n l).DeliveryLawful :=
  h.of_sources (fun _ => rfl) rfl fun x => by
    refine ⟨?_, fun d => .refl d _⟩
    by_cases hx : x = lineSource n
    · subst hx
      exact (h.sources (lineSource n)).of_idle _ hi
    · rw [s.isLevelType_setLine_of_ne l hx]
      exact h.sources x

theorem keeps_status (h : s.DeliveryLawful) {d : Deliv} {st : SessionStatus} {p : Params}
    (hst : st = .active p ∨ st = .stalled p ∧ (s.session d).isActive = false)
    (hp : p.Lawful ∨ (s.session d).params = some p)
    (hq : ∀ q ∈ (s.session d).params, (p.mode = q.mode ∧ p.window = q.window) ∨ (s.session d).load = 0) :
    (s.setSession d { s.session d with status := st }).DeliveryLawful :=
  h.of_session d (by simp) (fun e he => by simp [he.symm]) (fun _ _ _ => Iff.rfl)
    (fun x => ⟨h.sources x, fun e _ => .refl e _⟩) ((h.sessions d).withStatus hst hp hq) (h.lists d) (h.sending d)

/-- One offer is replaced by another of its DN, source and priority; its phase and the frame on LTX may change together. -/
theorem keeps_replaced (h : s.DeliveryLawful) {d : Deliv} {before after : List Offer} {o o' : Offer}
    (ho : (s.session d).offers = before ++ o :: after) (hdn : o'.dn = o.dn) (hsrc : o'.source = o.source)
    (hpri : o'.priority = o.priority) (hl : o'.Lawful)
    (ht : t.session d = { s.session d with offers := before ++ o' :: after }) (hs : ∀ e ≠ d, t.session e = s.session e)
    (hx : ∀ x, t.source x = s.source x) (hlt : ∀ x, t.isLevelType x = s.isLevelType x)
    (hself : o'.phase = .sending ↔ t.onLine = some (.evt d o.dn))
    (hother : ∀ e dn, (e, dn) ≠ (d, o.dn) → (t.onLine = some (.evt e dn) ↔ s.onLine = some (.evt e dn))) :
    t.DeliveryLawful := by
  have hxs : t.source = s.source := funext hx
  refine h.of_session d ht hs (fun e he dn => hother e dn fun k => he (congrArg Prod.fst k))
    (fun x => by rw [hx, hlt]; exact ⟨h.sources x, fun e _ => .refl e _⟩) 
    ((h.sessions d).replaced ho hdn hpri hl) ?_ ?_
  · obtain ⟨h1, h2, h3, h4, h5⟩ := h.lists d
    rw [hxs]
    rw [ho] at h1 h3 h5
    have hmap : (before ++ o' :: after).map Offer.source = (before ++ o :: after).map Offer.source := by simp [hsrc]
    refine ⟨hmap ▸ h1, h2, ?_, h4, fun x => by rw [hmap]; exact h5 x⟩
    simp only [List.mem_append, List.mem_cons] at h3 ⊢
    rintro q (hq | rfl | hq)
    · exact h3 q (.inl hq)
    · rw [hpri, hsrc]
      exact h3 o (.inr (.inl rfl))
    · exact h3 q (.inr (.inr hq))
  · have hn : ((before ++ o :: after).map Offer.dn).Nodup := ho ▸ (h.sessions d).1
    have hold : ∀ q, q ∈ before ∨ q ∈ after → (q.phase = .sending ↔ t.onLine = some (.evt d q.dn)) := fun q hq => by
      rw [hother d q.dn fun k => dn_ne_of_nodup hn hq (congrArg Prod.snd k)]
      refine h.sending d q ?_
      rw [ho]
      simp only [List.mem_append, List.mem_cons]
      exact hq.imp id .inr
    intro q hq
    simp only [List.mem_append, List.mem_cons] at hq
    obtain hq | rfl | hq := hq
    · exact hold q (.inl hq)
    · rw [hdn]
      exact hself
    · exact hold q (.inr hq)

end State.DeliveryLawful

end Sys2Proof.Machine
end

section
/-! The laws of delivery are kept when entries leave the lists of a session and their sources come home: ACCEPT under AUTO,
RETURN, DONE, DONE_TOP, CLOSE and the stall. -/

namespace Sys2Proof.Machine

/-! ## One entry out of a list -/

theorem mem_map_of_split {α β : Type} {f : α → β} {before after : List α} {a : α} {y : β}
    (h : y ∈ (before ++ a :: after).map f) (hy : y ≠ f a) : y ∈ (before ++ after).map f := by
  simp only [List.map_append, List.map_cons, List.mem_append, List.mem_cons] at h ⊢
  tauto

theorem not_mem_map_of_nodup_split {α β : Type} {f : α → β} {before after : List α} {a : α}
    (h : ((before ++ a :: after).map f).Nodup) : f a ∉ (before ++ after).map f := by
  have hp : ((before ++ a :: after).map f).Perm ((a :: (before ++ after)).map f) := List.perm_middle.map f
  have := hp.nodup_iff.mp h
  rw [List.map_cons, List.nodup_cons] at this
  exact this.1

/-! ## Sources that come home one after the other -/

/-- Merges write each withdrawn source once, from the records as they stood (R17, R53). -/
theorem State.mergeAll_source (s : State) (os : List Offer) (h : (os.map Offer.source).Nodup) :
    (∀ o ∈ os, (s.mergeAll os).source o.source =
      (s.source o.source).merged o (s.isLevelType o.source) (s.isAsserted o.source)) ∧
    ∀ x ∉ os.map Offer.source, (s.mergeAll os).source x = s.source x := by
  induction os generalizing s with
  | nil => simp [State.mergeAll]
  | cons o os ih =>
    rw [List.map_cons, List.nodup_cons] at h
    obtain ⟨ih1, ih2⟩ := ih (s.merge o) h.2
    have e : s.mergeAll (o :: os) = (s.merge o).mergeAll os := rfl
    have ho : (s.merge o).source o.source = (s.source o.source).merged o (s.isLevelType o.source) (s.isAsserted o.source) := by
      rw [State.merge_source, if_pos rfl]
    have hne : ∀ x, x ≠ o.source → (s.merge o).source x = s.source x := fun x hx => by
      rw [State.merge_source, if_neg hx.symm]
    rw [e]
    constructor
    · intro q hq
      obtain rfl | hq := List.mem_cons.mp hq
      · rw [ih2 _ h.1, ho]
      · rw [ih1 q hq, hne q.source fun k => h.1 (k ▸ List.mem_map_of_mem hq)]
        rfl
    · intro x hx
      rw [List.map_cons, List.mem_cons, not_or] at hx
      rw [ih2 x hx.2, hne x hx.1]

/-- Abandonments complete each source in service once, from the records as they stood (R18, R64). -/
theorem State.completeAll_source (s : State) (es : List Entry) (h : (es.map Entry.source).Nodup) :
    (∀ e ∈ es, (s.completeAll es).source e.source =
      (s.source e.source).completed (s.isLevelType e.source) (s.isAsserted e.source) s.now) ∧
    ∀ x ∉ es.map Entry.source, (s.completeAll es).source x = s.source x := by
  induction es generalizing s with
  | nil => simp [State.completeAll]
  | cons e es ih =>
    rw [List.map_cons, List.nodup_cons] at h
    obtain ⟨ih1, ih2⟩ := ih (s.complete e.source) h.2
    have e' : s.completeAll (e :: es) = (s.complete e.source).completeAll es := rfl
    have he : (s.complete e.source).source e.source =
        (s.source e.source).completed (s.isLevelType e.source) (s.isAsserted e.source) s.now := by
      rw [State.complete_source, if_pos rfl]
    have hne : ∀ x, x ≠ e.source → (s.complete e.source).source x = s.source x := fun x hx => by
      rw [State.complete_source, if_neg hx.symm]
    rw [e']
    constructor
    · intro q hq
      obtain rfl | hq := List.mem_cons.mp hq
      · rw [ih2 _ h.1, he]
      · rw [ih1 q hq, hne q.source fun k => h.1 (k ▸ List.mem_map_of_mem hq)]
        rfl
    · intro x hx
      rw [List.map_cons, List.mem_cons, not_or] at hx
      rw [ih2 x hx.2, hne x hx.1]

/-- The withdrawals and abandonments of a CLOSE change source records alone (R64). -/
theorem State.withdrawn_only (s : State) (v : Session) :
    ∃ src, (s.mergeAll v.offers).completeAll v.inService = s.setSources src := by
  obtain ⟨a, ha⟩ := s.mergeAll_only v.offers
  obtain ⟨b, hb⟩ := (s.mergeAll v.offers).completeAll_only v.inService
  exact ⟨b, by rw [hb, ha]; rfl⟩

/-- The sources after a CLOSE of `d`: those offered are merged, those in service completed, the others stay (R64, R80). -/
theorem State.withdrawn_source (s : State) {v : Session} {d : Deliv} (h : v.Matches d s.source) :
    (∀ o ∈ v.offers, ((s.mergeAll v.offers).completeAll v.inService).source o.source =
      (s.source o.source).merged o (s.isLevelType o.source) (s.isAsserted o.source)) ∧
    (∀ e ∈ v.inService, ((s.mergeAll v.offers).completeAll v.inService).source e.source =
      (s.source e.source).completed (s.isLevelType e.source) (s.isAsserted e.source) s.now) ∧
    ∀ x ∉ v.offers.map Offer.source, x ∉ v.inService.map Entry.source →
      ((s.mergeAll v.offers).completeAll v.inService).source x = s.source x := by
  obtain ⟨h1, h2, -, -, h5⟩ := h
  obtain ⟨m1, m2⟩ := s.mergeAll_source v.offers h1
  obtain ⟨src, hm⟩ := s.mergeAll_only v.offers
  obtain ⟨c1, c2⟩ := (s.mergeAll v.offers).completeAll_source v.inService h2
  have hboth : ∀ x, x ∈ v.offers.map Offer.source → x ∉ v.inService.map Entry.source := fun x ho hi => by
    have := ((h5 x).1.mp ho).1.symm.trans ((h5 x).2.mp hi).1
    exact SourceState.noConfusion this
  have hlt : ∀ x, (s.mergeAll v.offers).isLevelType x = s.isLevelType x := fun x => by rw [hm]; rfl
  have has : ∀ x, (s.mergeAll v.offers).isAsserted x = s.isAsserted x := fun x => by rw [hm]; rfl
  have hnow : (s.mergeAll v.offers).now = s.now := by rw [hm]; rfl
  refine ⟨fun o ho => ?_, fun e he => ?_, fun x ho hi => by rw [c2 x hi, m2 x ho]⟩
  · rw [c2 _ (hboth _ (List.mem_map_of_mem ho)), m1 o ho]
  · rw [c1 e he, m2 _ fun k => hboth _ k (List.mem_map_of_mem he), hlt, has, hnow]

/-! ## One entry from one list to the other -/

/-- An acceptance under MANUAL moves the entry of its source from one list to the other (R57). -/
theorem Session.Matches.accepted {v : Session} {d : Deliv} {src src' : SourceId → Source} {before after : List Offer}
    {o : Offer} (h : v.Matches d src) (hsp : v.offers = before ++ o :: after) (hst : (src o.source).state = .offered)
    (hx : ∀ x, src' x = if o.source = x then { src x with state := .inService, holder := some d } else src x) :
    ({ v with
      offers := before ++ after
      inService := v.inService ++ [{ source := o.source, priority := o.priority, dn := o.dn }] } : Session).Matches d src' := by
  obtain ⟨h1, h2, h3, h4, h5⟩ := h
  have hnotIn : o.source ∉ v.inService.map Entry.source := fun k =>
    SourceState.noConfusion (hst.symm.trans ((h5 o.source).2.mp k).1)
  have hnotOff : o.source ∉ (before ++ after).map Offer.source := not_mem_map_of_nodup_split (hsp ▸ h1)
  have hsub : (before ++ after).Sublist v.offers := hsp ▸ by simp
  refine ⟨h1.sublist (hsub.map _), ?_, fun q hq => ?_, fun q hq => ?_, fun x => ?_⟩
  · rw [List.map_append, List.map_singleton]
    exact h2.append (List.nodup_singleton _) (by simpa using hnotIn)
  · have hne : o.source ≠ q.source := fun k => hnotOff (k ▸ List.mem_map_of_mem hq)
    rw [hx, if_neg hne]
    exact h3 q (hsub.subset hq)
  · rw [hx]
    obtain hq | hq := List.mem_append.mp hq
    · have hne : o.source ≠ q.source := fun k => hnotIn (k ▸ List.mem_map_of_mem hq)
      rw [if_neg hne]
      exact h4 q hq
    · obtain rfl := List.mem_singleton.mp hq
      rw [if_pos rfl]
      exact h3 o (hsp ▸ by simp)
  · rw [hx, List.map_append (l₁ := v.inService), List.map_singleton, List.mem_append, List.mem_singleton]
    by_cases hy : o.source = x
    · subst hy
      rw [if_pos rfl]
      exact ⟨⟨fun k => absurd k hnotOff, fun k => SourceState.noConfusion k.1⟩, ⟨fun _ => ⟨rfl, rfl⟩, fun _ => .inr rfl⟩⟩
    · rw [if_neg hy, ← (h5 x).1, ← (h5 x).2]
      exact ⟨⟨fun k => (hsub.map _).subset k, fun k => mem_map_of_split (hsp ▸ k) (Ne.symm hy)⟩,
        ⟨fun k => k.elim id fun k => absurd k.symm hy, .inl⟩⟩

namespace State.DeliveryLawful

variable {s t : State}

/-- Entries leave the lists of session `d` with their sources. -/
theorem keeps_left (h : s.DeliveryLawful) {d : Deliv} {w : Session} (hw : t.session d = w)
    (hs : ∀ e ≠ d, t.session e = s.session e) (hf : t.onLine = s.onLine) (hlt : ∀ x, t.isLevelType x = s.isLevelType x)
    (ho : w.offers.Sublist (s.session d).offers) (hi : w.inService.Sublist (s.session d).inService) (hl : w.Lawful)
    (hx : ∀ x,
      (t.source x = s.source x ∧ (x ∈ (s.session d).offers.map Offer.source → x ∈ w.offers.map Offer.source) ∧
        (x ∈ (s.session d).inService.map Entry.source → x ∈ w.inService.map Entry.source)) ∨
      ((s.source x).OutAt d ∧ (t.source x).Lawful (s.isLevelType x) ∧ ¬ (t.source x).IsOut ∧
        x ∉ w.offers.map Offer.source ∧ x ∉ w.inService.map Entry.source)) :
    t.DeliveryLawful := by
  refine h.of_session d hw hs (fun _ _ _ => by rw [hf]) (fun x => ?_) hl ?_ ?_
  · rw [hlt x]
    obtain ⟨e, -⟩ | ⟨hout, hlaw, hn, -⟩ := hx x
    · rw [e]
      exact ⟨h.sources x, fun e _ => .refl e _⟩
    · exact ⟨hlaw, fun e he => .inr ⟨hout.not_at_other he, fun k => hn k.1⟩⟩
  · refine Session.Matches.left (h.lists d) ho hi fun x => (hx x).imp id ?_
    rintro ⟨-, -, k⟩
    exact k
  · rw [hf]
    exact Session.SendsOn.of_subset (h.sending d) ho.subset

/-- One offer leaves the list of session `d` and its source comes home. -/
theorem keeps_offerLeft (h : s.DeliveryLawful) {d : Deliv} {o : Offer}
    (ho : (s.session d).offers.find? (fun q => q.dn == o.dn) = some o) (hw : t.session d = (s.session d).withoutOffer o.dn)
    (hs : ∀ e ≠ d, t.session e = s.session e) (hf : t.onLine = s.onLine) (hlt : ∀ x, t.isLevelType x = s.isLevelType x)
    (hy : ∀ y ≠ o.source, t.source y = s.source y) (hlaw : (t.source o.source).Lawful (s.isLevelType o.source))
    (hn : ¬ (t.source o.source).IsOut) : t.DeliveryLawful := by
  obtain ⟨before, after, hsp, -, he⟩ := eraseP_of_find? ho
  have hoff : ((s.session d).withoutOffer o.dn).offers = before ++ after := he
  have hmem : o ∈ (s.session d).offers := hsp ▸ by simp
  obtain ⟨hst, hh⟩ := h.offered_of_mem hmem
  obtain ⟨h1, -, -, -, h5⟩ := h.lists d
  have hsub : ((s.session d).withoutOffer o.dn).offers.Sublist (s.session d).offers := List.eraseP_sublist
  refine h.keeps_left hw hs hf hlt hsub (List.Sublist.refl _)
    ((h.sessions d).of_sublist rfl hsub (List.Sublist.refl _)) fun x => ?_
  by_cases hx : x = o.source
  · subst hx
    refine .inr ⟨⟨.inl hst, hh⟩, hlaw, hn, ?_, fun k => ?_⟩
    · rw [hoff]
      exact not_mem_map_of_nodup_split (hsp ▸ h1)
    · exact SourceState.noConfusion (hst.symm.trans ((h5 o.source).2.mp k).1)
  · refine .inl ⟨hy x hx, fun k => ?_, id⟩
    rw [hoff]
    exact mem_map_of_split (hsp ▸ k) hx

/-- One entry leaves the in-service list of session `d` and its source is completed. -/
theorem keeps_entryLeft (h : s.DeliveryLawful) {d : Deliv} {before after : List Entry} {e : Entry}
    (he : (s.session d).inService = before ++ e :: after)
    (ht : t = (s.setSession d { s.session d with inService := before ++ after }).complete e.source) : t.DeliveryLawful := by
  subst ht
  obtain ⟨-, h2, -, -, h5⟩ := h.lists d
  have hmem : e.source ∈ (s.session d).inService.map Entry.source := by simp [he]
  obtain ⟨hst, hh⟩ := (h5 e.source).2.mp hmem
  have hsub : (before ++ after).Sublist (s.session d).inService := he ▸ by simp
  have hx : ∀ y, ((s.setSession d { s.session d with inService := before ++ after }).complete e.source).source y =
      if e.source = y then (s.source y).completed (s.isLevelType y) (s.isAsserted y) s.now else s.source y := fun y => by
    rw [State.complete_source]
    rfl
  refine h.keeps_left (d := d) (w := { s.session d with inService := before ++ after }) ?_ ?_ rfl (fun _ => rfl) (List.Sublist.refl _)
    hsub ((h.sessions d).of_sublist rfl (List.Sublist.refl _) hsub) fun x => ?_
  · simp [State.complete]
  · intro e' he'
    simp [State.complete, he'.symm]
  · rw [hx]
    by_cases hx : e.source = x
    · subst hx
      rw [if_pos rfl]
      refine .inr ⟨⟨.inr hst, hh⟩, (h.sources e.source).completed _ _, Source.completed_not_out _ _ _ _, fun k => ?_, ?_⟩
      · exact SourceState.noConfusion (hst.symm.trans ((h5 e.source).1.mp k).1)
      · exact not_mem_map_of_nodup_split (he ▸ h2)
    · rw [if_neg hx]
      exact .inl ⟨rfl, id, fun k => mem_map_of_split (he ▸ k) (Ne.symm hx)⟩

theorem keeps_finished (h : s.DeliveryLawful) {d : Deliv} {x : SourceId} (hs : (s.source x).state = .inService)
    (hh : (s.source x).holder = some d) : (s.finish d x).DeliveryLawful := by
  obtain ⟨-, -, -, -, h5⟩ := h.lists d
  obtain ⟨e, he, rfl⟩ := List.mem_map.mp ((h5 x).2.mpr ⟨hs, hh⟩)
  have hsome : ((s.session d).inService.find? fun a => a.source == e.source).isSome = true :=
    List.find?_isSome.mpr ⟨e, he, by simp⟩
  obtain ⟨a, ha⟩ := Option.isSome_iff_exists.mp hsome
  obtain ⟨before, after, hsp, hp, her⟩ := eraseP_of_find? ha
  obtain hae : a.source = e.source := by simpa using hp
  exact h.keeps_entryLeft hsp (by simp only [State.finish, her, hae])

theorem keeps_finishedTop (h : s.DeliveryLawful) {d : Deliv} {e : Entry} (he : (s.session d).inService.getLast? = some e) :
    (s.finishTop d e.source).DeliveryLawful := by
  obtain ⟨below, hb⟩ := List.getLast?_eq_some_iff.mp he
  exact h.keeps_entryLeft hb (by simp [State.finishTop, hb])

theorem keeps_returned (h : s.DeliveryLawful) {d : Deliv} {o : Offer} {n : Nat}
    (ho : (s.session d).offers.find? (fun q => q.dn == o.dn) = some o) : (s.giveBack d o n).DeliveryLawful := by
  set t := (s.setSession d ((s.session d).withoutOffer o.dn)).merge o with ht
  have hx : ∀ y, t.source y =
      if o.source = y then (s.source y).merged o (s.isLevelType y) (s.isAsserted y) else s.source y := fun y => by
    rw [ht, State.merge_source]
    rfl
  have hol : o.Lawful := (h.sessions d).2.1 o (List.mem_of_find?_eq_some ho)
  have hme := (h.sources o.source).merged hol (s.isAsserted o.source)
  have hmid : t.DeliveryLawful := by
    refine h.keeps_offerLeft ho (by simp [ht, State.merge]) (fun e he => by simp [ht, State.merge, he.symm]) rfl
      (fun _ => rfl) (fun y hy => by rw [hx, if_neg hy.symm]) ?_ ?_
    · rw [hx, if_pos rfl]
      exact hme
    · rw [hx, if_pos rfl]
      exact Source.merged_not_out _ _ _ _
  have hlaw := hmid.sources o.source
  show (t.holdReturned o.source n).DeliveryLawful
  have hset : ∀ v : Option Instant, { t.source o.source with holdUntil := v }.Lawful (t.isLevelType o.source) →
      (t.setSource o.source { t.source o.source with holdUntil := v }).DeliveryLawful := fun v hv =>
    hmid.of_sources (fun _ => rfl) rfl fun y => by
      by_cases hy : o.source = y
      · subst hy
        rw [State.source_setSource, if_pos rfl]
        exact ⟨hv, fun d => .inl ⟨rfl, rfl, rfl⟩⟩
      · rw [State.source_setSource, if_neg hy]
        exact ⟨hmid.sources y, fun d => .refl d _⟩
  unfold State.holdReturned
  dsimp only
  split
  · exact hset none hlaw.holdEnded
  · rename_i ha
    split
    · exact hmid
    · exact hset _ (hlaw.held ha _)

theorem keeps_accepted (h : s.DeliveryLawful) {d : Deliv} {o : Offer}
    (ho : (s.session d).offers.find? (fun q => q.dn == o.dn) = some o) : (s.acceptOffer d o).DeliveryLawful := by
  have hmem : o ∈ (s.session d).offers := List.mem_of_find?_eq_some ho
  obtain ⟨hst, hh⟩ := h.offered_of_mem hmem
  unfold State.acceptOffer
  dsimp only
  split
  case h_2 =>
    have hx : ∀ y, ((s.setSession d ((s.session d).withoutOffer o.dn)).complete o.source).source y =
        if o.source = y then (s.source y).completed (s.isLevelType y) (s.isAsserted y) s.now else s.source y := fun y => by
      rw [State.complete_source]
      rfl
    refine h.keeps_offerLeft ho (by simp [State.complete]) (fun e he => by simp [State.complete, he.symm]) rfl
      (fun _ => rfl) (fun y hy => by rw [hx, if_neg hy.symm]) ?_ ?_
    · rw [hx, if_pos rfl]
      exact (h.sources o.source).completed _ _
    · rw [hx, if_pos rfl]
      exact Source.completed_not_out _ _ _ _
  case h_1 =>
    obtain ⟨before, after, hsp, -, he⟩ := eraseP_of_find? ho
    have hx : ∀ y, (s.setSource o.source { s.source o.source with state := .inService, holder := some d }).source y =
        if o.source = y then { s.source y with state := .inService, holder := some d } else s.source y := fun y => by
      rw [State.source_setSource]
      by_cases hy : o.source = y <;> simp [hy]
    refine h.of_session d (w := { s.session d with
        offers := before ++ after
        inService := (s.session d).inService ++ [{ source := o.source, priority := o.priority, dn := o.dn }] })
      (by rw [State.session_setSession, if_pos rfl, ← he]; rfl)
      (fun e he => by rw [State.session_setSession, if_neg he.symm]; rfl) (fun _ _ _ => Iff.rfl) (fun x => ?_)
      (he ▸ (h.sessions d).accepted ho) (Session.Matches.accepted (h.lists d) hsp hst hx) ?_
    · rw [State.source_setSession, hx]
      by_cases hy : o.source = x
      · subst hy
        rw [if_pos rfl]
        exact ⟨(h.sources o.source).accepted hst d, fun e he =>
          .inr ⟨Source.OutAt.not_at_other ⟨.inl hst, hh⟩ he, Source.OutAt.not_at_other (d := d) ⟨.inr rfl, rfl⟩ he⟩⟩
      · rw [if_neg hy]
        exact ⟨h.sources x, fun e _ => .refl e _⟩
    · exact Session.SendsOn.of_subset (h.sending d) (he ▸ List.eraseP_subset)

end State.DeliveryLawful

end Sys2Proof.Machine
end

section
/-! The laws of delivery are kept by CLOSE, the stall, the frames on LTX and the resets, and so by every happening. -/

namespace Sys2Proof.Machine

/-! ## What the operations leave -/

/-- The release of a capture by CLOSE writes the capture buffer alone (R150). -/
theorem State.releaseOwned_eq (s : State) (d : Deliv) :
    s.releaseOwned d = s.setCapture (s.capture.filter fun c => c.owner != sessionNumber d) := by
  have hself : s = s.setCapture s.capture := rfl
  unfold State.releaseOwned
  cases hc : s.capture with
  | none => rw [hc] at hself; exact hself
  | some c =>
    by_cases ho : c.owner = sessionNumber d
    · simp [Option.filter, ho]
    · rw [hc] at hself
      simpa [Option.filter, ho] using hself

/-- The ranges of an offer as its source's record stands at the claim (R14, R40, R47). -/
theorem offerOf_lawful {r : Source} {l : Bool} (h : r.Lawful l) (hp : r.state = .pending) (x : SourceId) (dn : Byte) :
    (offerOf r x dn).Lawful := by
  obtain ⟨-, h2, -, h4, h5, h6, -⟩ := h
  have hc := h2 hp
  exact ⟨hc, h6, h4.mpr hc, h5.mpr hc, le_refl 1, by simp [offerOf], nofun⟩

/-- An offer is SENDING when it is neither OWED nor AWAITING (R48). -/
theorem Offer.phase_eq_sending (o : Offer) : o.phase = .sending ↔ o.sendOwed = false ∧ o.ackDeadline = none := by
  unfold Offer.phase
  cases o.sendOwed <;> cases o.ackDeadline <;> simp

/-! ## Eligibility and selection -/

/-- What the source and the session side of eligibility say (R29). -/
theorem State.eligible_spec {s : State} {d : Deliv} {x : SourceId} (h : s.eligible d x = true) :
    (s.source x).state = .pending ∧ (s.source x).admission = .on ∧ (s.session d).takes (s.source x).priority = true := by
  simp only [State.eligible, Bool.and_eq_true, beq_iff_eq] at h
  obtain ⟨⟨⟨⟨h1, h2⟩, -⟩, -⟩, h5⟩ := h
  exact ⟨h1, h2, h5⟩

/-- A selected source is eligible (R36). -/
theorem State.eligible_of_select {s : State} {d : Deliv} {x : SourceId} (h : s.select d = some x) : s.eligible d x = true := by
  unfold State.select at h
  split at h
  · cases h
  · have := List.find?_some h
    simp only [Bool.and_eq_true] at this
    exact this.1

/-! ## Polls and picks -/

/-- A poll that is answered: a resend of the first owed offer, or a new offer of the selected source (R39, R40, R49). -/
theorem State.pollAnswer_cases {s s' : State} {d : Deliv} {o : Offer} (h : s.pollAnswer d = some (o, s')) :
    (s.session d).isActive = true ∧
    ((∃ q, (s.session d).offers.find? Offer.sendOwed = some q ∧ o = q.resent ∧
        s' = s.setSession d { s.session d with offers := updateFirst Offer.sendOwed Offer.resent (s.session d).offers }) ∨
      ∃ x, (s.session d).offers.find? Offer.sendOwed = none ∧ s.select d = some x ∧
        o = offerOf (s.source x) x (s.session d).assignDN ∧ s' = s.createOffer d x) := by
  unfold State.pollAnswer at h
  dsimp only at h
  split at h
  · rename_i ha
    refine ⟨ha, ?_⟩
    split at h
    · rename_i q hq
      cases h
      exact .inl ⟨q, hq, rfl, rfl⟩
    · rename_i hq
      split at h
      · rename_i x hx
        cases h
        exact .inr ⟨x, hq, hx, rfl, rfl⟩
      · cases h
  · cases h

/-- A pick starts the oldest reply or a notice, which touches no list and no source, or an EVT frame, or nothing (R164). -/
theorem State.pickFrame_cases (s : State) :
    ((∀ x, s.pickFrame.source x = s.source x) ∧ s.pickFrame.lines = s.lines ∧ s.pickFrame.phase = s.phase ∧
      (∀ d, ∃ k, s.pickFrame.session d = { s.session d with stall := k }) ∧ ∀ d dn, s.pickFrame.onLine ≠ some (.evt d dn)) ∨
    s.pickFrame = s ∨ ∃ d o s', s.pollAnswer d = some (o, s') ∧ s.pickFrame = s'.startEvt d o := by
  have hsame : ∀ d, ∃ k, s.session d = { s.session d with stall := k } := fun d => ⟨(s.session d).stall, rfl⟩
  unfold State.pickFrame
  split
  · exact .inl ⟨fun _ => rfl, rfl, rfl, hsame, by simp [State.onLine, State.startReply, State.startFrame]⟩
  · split
    · exact .inl ⟨fun _ => rfl, rfl, rfl, hsame, by simp [State.onLine, State.startHello, State.startFrame]⟩
    · split
      · exact .inl ⟨fun _ => rfl, rfl, rfl, hsame, by simp [State.onLine, State.startLink, State.startFrame]⟩
      · split
        · rename_i d _
          refine .inl ⟨fun _ => rfl, rfl, rfl, fun e => ?_, by simp [State.onLine, State.startStall, State.startFrame]⟩
          have he : (s.startStall d).session e = if d = e then { s.session d with stall := .empty } else s.session e :=
            State.session_setSession _ d e _
          rw [he]
          by_cases hde : d = e
          · subst hde
            exact ⟨.empty, if_pos rfl⟩
          · rw [if_neg hde]
            exact hsame e
        · obtain ⟨h, -⟩ | ⟨d, -, o, s', ha, h⟩ := s.poll_cases (pollOrder s.transmitter.rrPointer)
          · exact .inr (.inl h)
          · exact .inr (.inr ⟨d, o, s', ha, h⟩)

/-- A claim adds its source to the offer list of the session (R14, R38). -/
theorem Session.Matches.claimed {v : Session} {d : Deliv} {src src' : SourceId → Source} {o : Offer} (h : v.Matches d src)
    (hst : (src o.source).state = .pending) (hpri : o.priority = (src o.source).priority)
    (hx : ∀ x, src' x = if o.source = x then (src x).claimed d else src x) : (v.withOffer o).Matches d src' := by
  have hout : ¬ (src o.source).OutAt d := fun k => Source.not_out_of_pending hst k.1
  have hnot : o.source ∉ v.offers.map Offer.source ∧ o.source ∉ v.inService.map Entry.source :=
    ⟨fun k => hout (h.outAt_of_mem (.inl k)), fun k => hout (h.outAt_of_mem (.inr k))⟩
  obtain ⟨h1, h2, h3, h4, h5⟩ := h
  refine ⟨?_, h2, fun q hq => ?_, fun q hq => ?_, fun x => ?_⟩
  · rw [Session.withOffer, List.map_append, List.map_singleton]
    exact h1.append (List.nodup_singleton _) (by simpa using hnot.1)
  · rw [hx]
    obtain hq | hq := List.mem_append.mp hq
    · have hne : o.source ≠ q.source := fun k => hnot.1 (k ▸ List.mem_map_of_mem hq)
      rw [if_neg hne]
      exact h3 q hq
    · obtain rfl := List.mem_singleton.mp hq
      rw [if_pos rfl]
      exact hpri
  · have hne : o.source ≠ q.source := fun k => hnot.2 (k ▸ List.mem_map_of_mem hq)
    rw [hx, if_neg hne]
    exact h4 q hq
  · rw [hx, Session.withOffer, List.map_append, List.map_singleton, List.mem_append, List.mem_singleton]
    by_cases hy : o.source = x
    · subst hy
      rw [if_pos rfl]
      exact ⟨⟨fun _ => ⟨rfl, rfl⟩, fun _ => .inr rfl⟩, ⟨fun k => absurd k hnot.2, fun k => SourceState.noConfusion k.1⟩⟩
    · rw [if_neg hy, ← (h5 x).1, ← (h5 x).2]
      exact ⟨⟨fun k => k.elim id fun k => absurd k.symm hy, .inl⟩, Iff.rfl⟩

namespace State.DeliveryLawful

variable {s t : State}

/-- With LTX idle no offer is SENDING. -/
theorem not_sending (h : s.DeliveryLawful) (hl : ∀ d dn, s.onLine ≠ some (.evt d dn)) {d : Deliv} {o : Offer}
    (ho : o ∈ (s.session d).offers) : o.phase ≠ .sending := fun k => hl d o.dn ((h.sending d o ho).mp k)

theorem keeps_closed (h : s.DeliveryLawful) (d : Deliv) : (s.closeSession d).DeliveryLawful := by
  obtain ⟨w1, w2, w3⟩ := s.withdrawn_source (h.lists d)
  obtain ⟨src, hsrc⟩ := s.withdrawn_only (s.session d)
  simp only [State.closeSession, State.releaseOwned_eq, hsrc] at w1 w2 w3 ⊢
  have hm := h.lists d
  refine h.keeps_left (d := d) (w := { s.session d with status := .closed, offers := [], inService := [], stall := .empty })
    (by simp) (fun e he => by simp [he.symm]) rfl (fun _ => rfl) (List.nil_sublist _) (List.nil_sublist _)
    (Session.closed_lawful _ _) fun x => ?_
  simp only [State.source_setCapture, State.source_setStallOwed, State.source_setSession]
  by_cases ho : x ∈ (s.session d).offers.map Offer.source
  · have hout := Session.Matches.outAt_of_mem hm (.inl ho)
    obtain ⟨o, mo, rfl⟩ := List.mem_map.mp ho
    rw [w1 o mo]
    exact .inr ⟨hout, (h.sources o.source).merged ((h.sessions d).2.1 o mo) _, Source.merged_not_out _ _ _ _, nofun, nofun⟩
  · by_cases hi : x ∈ (s.session d).inService.map Entry.source
    · have hout := Session.Matches.outAt_of_mem hm (.inr hi)
      obtain ⟨e, me, rfl⟩ := List.mem_map.mp hi
      rw [w2 e me]
      exact .inr ⟨hout, (h.sources e.source).completed _ _, Source.completed_not_out _ _ _ _, nofun, nofun⟩
    · exact .inl ⟨w3 x ho hi, fun k => absurd k ho, fun k => absurd k hi⟩

theorem keeps_stalled (h : s.DeliveryLawful) {d : Deliv} {p : Params} (dn : Byte) (hp : (s.session d).status = .active p) :
    (s.stallSession d p dn).DeliveryLawful := by
  have hm := h.lists d
  obtain ⟨m1, m2⟩ := s.mergeAll_source (s.session d).offers hm.1
  obtain ⟨src, hsrc⟩ := s.mergeAll_only (s.session d).offers
  simp only [State.stallSession, hsrc] at m1 m2 ⊢
  refine h.keeps_left (d := d) (w := { s.session d with
      status := .stalled p, offers := []
      stall := (s.session d).stall.written dn ((s.session d).offers.map Offer.source) })
    (by simp) (fun e he => by simp [he.symm]) rfl (fun _ => rfl) (List.nil_sublist _) (List.Sublist.refl _)
    ((h.sessions d).stalled hp _) fun x => ?_
  simp only [State.source_setStallOwed, State.source_setSession]
  by_cases ho : x ∈ (s.session d).offers.map Offer.source
  · have hout := Session.Matches.outAt_of_mem hm (.inl ho)
    obtain ⟨o, mo, rfl⟩ := List.mem_map.mp ho
    have hoff := h.offered_of_mem mo
    obtain ⟨-, -, -, -, h5⟩ := hm
    rw [m1 o mo]
    exact .inr ⟨hout, (h.sources o.source).merged ((h.sessions d).2.1 o mo) _, Source.merged_not_out _ _ _ _, nofun,
      fun k => SourceState.noConfusion (hoff.1.symm.trans ((h5 o.source).2.mp k).1)⟩
  · exact .inl ⟨m2 x ho, fun k => absurd k ho, id⟩

theorem keeps_owed (h : s.DeliveryLawful) {d : Deliv} {dn : Byte} {o : Offer}
    (ho : (s.session d).offers.find? (fun q => q.dn == dn) = some o) (ha : o.ackDeadline.isSome = true)
    (hn : o.sendNumber ≤ 7 ∨ ∃ p, (s.session d).params = some p ∧ o.sendNumber ≤ p.retryLimit) :
    (s.setSession d { s.session d with
      offers := updateFirst (fun q => q.dn == dn) Offer.owed (s.session d).offers }).DeliveryLawful := by
  obtain ⟨before, after, hsp, -, -, hu⟩ := updateFirst_of_find? ho
  have hmem : o ∈ (s.session d).offers := hsp ▸ by simp
  obtain ⟨l1, l2, l3, l4, l5, l6, l7⟩ := (h.sessions d).2.1 o hmem
  have hseven : o.sendNumber ≤ 7 := by
    obtain hn | ⟨p, hp, hn⟩ := hn
    · exact hn
    · have := ((h.sessions d).2.2.2.2 p hp).1.2.2.2.2.2.1
      omega
  have hnot : s.onLine ≠ some (.evt d o.dn) := fun k => by
    have := (o.phase_eq_sending.mp ((h.sending d o hmem).mpr k)).2
    simp [this] at ha
  refine h.keeps_replaced hsp (o' := o.owed) rfl rfl rfl ⟨l1, l2, l3, l4, l5, l6, fun _ => ⟨hseven, rfl⟩⟩ (by simp [hu])
    (fun e he => by simp [he.symm]) (fun _ => rfl) (fun _ => rfl) ?_ (fun _ _ _ => Iff.rfl)
  exact ⟨fun k => by simp [Offer.phase, Offer.owed] at k, fun k => absurd k hnot⟩

/-- LTX falls idle at the end of a frame that is no EVT frame (R166). -/
theorem keeps_frameGone (h : s.DeliveryLawful) (hf : ∀ d dn, s.onLine ≠ some (.evt d dn)) : s.frameGone.DeliveryLawful where
  sources := h.sources
  sessions := h.sessions
  lists := h.lists
  sending := fun _ _ ho => ⟨fun k => absurd k (h.not_sending hf ho), nofun⟩

/-- At the end of an EVT frame the offer it was started for, if it stands, goes from SENDING to AWAITING (R50). -/
theorem keeps_evtGone (h : s.DeliveryLawful) {d : Deliv} {dn : Byte} (hf : s.onLine = some (.evt d dn)) :
    (s.frameGone.startAckDeadline d dn).DeliveryLawful := by
  have hgone : (∀ o ∈ (s.session d).offers, o.dn ≠ dn) → s.frameGone.DeliveryLawful := fun hn =>
    { sources := h.sources, sessions := h.sessions, lists := h.lists
      sending := fun e o ho => ⟨fun k => by
        have := hf.symm.trans ((h.sending e o ho).mp k)
        simp only [Option.some.injEq, TxKind.evt.injEq] at this
        obtain ⟨rfl, rfl⟩ := this
        exact absurd rfl (hn o ho), nofun⟩ }
  have hse : s.frameGone.session d = s.session d := rfl
  unfold State.startAckDeadline
  simp only [hse]
  split
  case h_1 hp =>
    have hnil : (s.session d).offers = [] := (h.sessions d).2.2.1 (Session.params_of_isActive_false hp)
    exact hgone (by simp [hnil])
  case h_2 p hp =>
    cases hfind : (s.session d).offers.find? (fun o => o.dn == dn) with
    | none =>
      rw [updateFirst_of_find?_none hfind]
      refine (hgone fun o ho => by simpa using List.find?_eq_none.mp hfind o ho).keeps_elsewhere ⟨rfl, fun _ => rfl, rfl⟩
        (fun _ => rfl) fun e => ?_
      by_cases he : d = e
      · subst he; simp [hse]
      · simp [he]
    | some o =>
      obtain ⟨before, after, hsp, -, hdn, hu⟩ := updateFirst_of_find? hfind
      obtain rfl : o.dn = dn := by simpa using hdn
      have hmem : o ∈ (s.session d).offers := hsp ▸ by simp
      obtain ⟨l1, l2, l3, l4, l5, l6, -⟩ := (h.sessions d).2.1 o hmem
      obtain ⟨hso, -⟩ := o.phase_eq_sending.mp ((h.sending d o hmem).mpr hf)
      refine h.keeps_replaced hsp (o' := { o with ackDeadline := some (s.clock + Config.microsPerMilli * p.ackTimeout) })
        rfl rfl rfl ⟨l1, l2, l3, l4, l5, l6, fun k => absurd (hso.symm.trans k) (by simp)⟩ (by rw [State.session_setSession, if_pos rfl, hu]; rfl)
        (fun e he => by simp [he.symm]; rfl) (fun _ => rfl) (fun _ => rfl) ?_ fun e m hne => ?_
      · rw [Offer.phase_eq_sending]
        exact ⟨fun k => by simp at k, nofun⟩
      · rw [hf]
        refine ⟨nofun, fun k => ?_⟩
        simp only [Option.some.injEq, TxKind.evt.injEq] at k
        exact absurd (Prod.ext k.1.symm k.2.symm) hne

/-- The start of a resend's EVT frame (R49). -/
theorem keeps_resent (h : s.DeliveryLawful) (hf : s.transmitter.frame = none) {d : Deliv} {q : Offer}
    (hq : (s.session d).offers.find? Offer.sendOwed = some q) :
    ((s.setSession d { s.session d with
      offers := updateFirst Offer.sendOwed Offer.resent (s.session d).offers }).startEvt d q.resent).DeliveryLawful := by
  obtain ⟨before, after, hsp, -, ho, hu⟩ := updateFirst_of_find? hq
  have hmem : q ∈ (s.session d).offers := hsp ▸ by simp
  obtain ⟨l1, l2, l3, l4, l5, l6, l7⟩ := (h.sessions d).2.1 q hmem
  obtain ⟨hseven, hack⟩ := l7 ho
  have hnone : s.onLine = none := by simp [State.onLine, hf]
  refine h.keeps_replaced hsp (o' := q.resent) rfl rfl rfl ⟨l1, l2, l3, l4, Nat.le_succ_of_le l5, Nat.succ_le_succ hseven, nofun⟩
    ?_ (fun e he => ?_) (fun _ => rfl) (fun _ => rfl) ?_ fun e m hne => ?_
  · rw [hu]
    exact (State.session_setSession ..).trans (if_pos rfl)
  · exact (State.session_setSession ..).trans (if_neg he.symm)
  · rw [Offer.phase_eq_sending]
    exact ⟨fun _ => rfl, fun _ => ⟨rfl, hack⟩⟩
  · rw [hnone]
    refine ⟨fun k => ?_, nofun⟩
    have k' : some (TxKind.evt d q.dn) = some (.evt e m) := k
    simp only [Option.some.injEq, TxKind.evt.injEq] at k'
    exact absurd (Prod.ext k'.1.symm k'.2.symm) hne

/-- The start of a new offer's EVT frame (R14, R38 to R41). -/
theorem keeps_created (h : s.DeliveryLawful) (hf : s.transmitter.frame = none) {d : Deliv} {x : SourceId}
    (hx : s.select d = some x) :
    ((s.createOffer d x).startEvt d (offerOf (s.source x) x (s.session d).assignDN)).DeliveryLawful := by
  obtain ⟨hp, ha, ht⟩ := State.eligible_spec (State.eligible_of_select hx)
  have hnone : s.onLine = none := by simp [State.onLine, hf]
  have hidle : ∀ e dn, s.onLine ≠ some (.evt e dn) := by simp [hnone]
  set o := offerOf (s.source x) x (s.session d).assignDN with ho
  set t := (s.createOffer d x).startEvt d o with htt
  have hsrc : ∀ y, t.source y = if o.source = y then (s.source y).claimed d else s.source y := fun y => by
    have e : t.source y = (s.setSource x ((s.source x).claimed d)).source y := rfl
    have hox : o.source = x := rfl
    rw [e, State.source_setSource, hox]
    by_cases hy : x = y <;> simp [hy]
  have hline : t.onLine = some (.evt d o.dn) := rfl
  have hfresh : o.dn ∉ (s.session d).offers.map Offer.dn := by
    obtain ⟨q, hs, -, hw, -⟩ := ((s.session d).takes_iff _).mp ht
    have hw4 := ((h.sessions d).2.2.2.2 q (by simp [Session.params, hs])).1.2.1
    obtain ⟨-, -, -, hfr, -⟩ := (s.session d).assignDN_spec (by omega)
    exact hfr
  refine h.of_session d (w := (s.session d).withOffer o) ((State.session_setSession ..).trans (if_pos rfl))
    (fun e he => (State.session_setSession ..).trans (if_neg he.symm)) (fun e he dn => ?_) (fun y => ?_)
    ((h.sessions d).withOffer ht rfl (offerOf_lawful (h.sources x) hp x _)) (Session.Matches.claimed (h.lists d) hp rfl hsrc)
    fun q hq => ?_
  · rw [hline, hnone]
    exact ⟨fun k => by simp only [Option.some.injEq, TxKind.evt.injEq] at k; exact absurd k.1.symm he, nofun⟩
  · have hlt : t.isLevelType y = s.isLevelType y := rfl
    rw [hlt, hsrc]
    by_cases hy : o.source = y
    · subst hy
      rw [if_pos rfl]
      exact ⟨Source.Lawful.claimed ha d, fun e he => .inr ⟨fun k => Source.not_out_of_pending hp k.1,
        Source.OutAt.not_at_other (d := d) ⟨.inl rfl, rfl⟩ he⟩⟩
    · rw [if_neg hy]
      exact ⟨h.sources y, fun e _ => .refl e _⟩
  · rw [hline]
    obtain hq | hq := List.mem_append.mp hq
    · refine ⟨fun k => absurd k (h.not_sending hidle hq), fun k => ?_⟩
      simp only [Option.some.injEq, TxKind.evt.injEq] at k
      exact absurd (k.2 ▸ List.mem_map_of_mem hq) hfresh
    · obtain rfl := List.mem_singleton.mp hq
      exact ⟨fun _ => rfl, fun _ => rfl⟩

theorem keeps_frameStarts (h : s.DeliveryLawful) (hf : s.transmitter.frame = none) : s.pickFrame.DeliveryLawful := by
  have hidle : ∀ e dn, s.onLine ≠ some (.evt e dn) := by simp [State.onLine, hf]
  obtain ⟨hx, hl, -, hs, ho⟩ | e | ⟨d, o, s', ha, e⟩ := s.pickFrame_cases
  · have hsrc : s.pickFrame.source = s.source := funext hx
    exact {
      sources := fun x => by rw [hx, State.isLevelType_congr hl]; exact h.sources x
      sessions := fun d => by
        obtain ⟨k, e⟩ := hs d
        rw [e]
        exact (h.sessions d).of_sublist rfl (List.Sublist.refl _) (List.Sublist.refl _)
      lists := s.pickFrame.listsMatchSources_iff.mpr fun d => by
        obtain ⟨k, e⟩ := hs d
        rw [e, hsrc]
        exact h.lists d
      sending := s.pickFrame.sendingIsOnLine_iff.mpr fun d => by
        obtain ⟨k, e⟩ := hs d
        rw [e]
        exact fun o m => ⟨fun k => absurd k (h.not_sending hidle m), fun k => absurd k (ho d o.dn)⟩ }
  · rw [e]
    exact h
  · rw [e]
    obtain ⟨-, ⟨q, hq, rfl, rfl⟩ | ⟨x, -, hx, rfl, rfl⟩⟩ := State.pollAnswer_cases ha
    · exact h.keeps_resent hf hq
    · exact h.keeps_created hf hx

/-- A state whose sources and sessions all stand at their reset values. -/
theorem of_reset (hx : ∀ x, t.source x = Source.reset) (hs : ∀ d, t.session d = Session.reset) : t.DeliveryLawful where
  sources := fun x => by rw [hx]; exact Source.reset_lawful _
  sessions := fun d => by rw [hs]; exact Session.reset_lawful
  lists := fun d => by
    rw [hs]
    simp [Session.reset, hx, Source.reset]
  sending := fun d => by
    rw [hs]
    simp [Session.reset]

end State.DeliveryLawful

end Sys2Proof.Machine
end

section
/-! Every command is a chain of happenings, leaves a part that is held in reset held, or restarts it. The laws of delivery
follow for every step. -/

namespace Sys2Proof.Machine

/-! ## RESET DELIVERY -/

/-- Counted occurrences change timer records alone (R133). -/
theorem State.countedOccurrences_only (s : State) (xs : List SourceId) :
    ∃ ts, xs.foldl State.countedOccurrence s = s.setTimers ts := by
  induction xs generalizing s with
  | nil => exact ⟨s.timeUnit.timers, rfl⟩
  | cons x xs ih =>
    obtain ⟨ts, h⟩ := s.countedOccurrence_only x
    obtain ⟨ts', h'⟩ := ih (s.countedOccurrence x)
    exact ⟨ts', by rw [List.foldl_cons, h', h]; rfl⟩

/-- What RESET DELIVERY leaves of the records that the laws of delivery read (R23, R90, R104). -/
theorem State.resetDelivery_only (s : State) :
    ∃ ts a, s.resetDelivery =
      ((((s.resetLink (some .delivery)).setSources s.deliverySources).setTimers ts).setAlertBlock a) := by
  obtain ⟨ts, h⟩ := ((s.resetLink (some .delivery)).setSources s.deliverySources).countedOccurrences_only
    ((List.finRange 32).filter s.raisedByDelivery)
  exact ⟨ts, _, congrArg (fun c : State => c.setAlertBlock
    { s.alert with gap := none, pin := s.alert.enabled && urgent c.sources }) h⟩

/-- Each source after RESET DELIVERY (R23). -/
theorem State.resetDelivery_source (s : State) (x : SourceId) :
    s.resetDelivery.source x =
      if s.raisedByDelivery x then (s.source x).cleared.raisedAt s.now else (s.source x).cleared := by
  obtain ⟨ts, a, h⟩ := s.resetDelivery_only
  rw [h]
  simp [State.source, State.deliverySources]

theorem State.resetDelivery_session (s : State) (d : Deliv) : s.resetDelivery.session d = Session.reset := by
  obtain ⟨ts, a, h⟩ := s.resetDelivery_only
  rw [h]
  simp [State.session, State.resetLink]

theorem State.resetDelivery_lines (s : State) : s.resetDelivery.lines = s.lines := by
  obtain ⟨ts, a, h⟩ := s.resetDelivery_only
  rw [h, State.setAlertBlock_lines, State.setTimers_lines, State.setSources_lines]
  rfl

theorem State.resetDelivery_phase (s : State) : s.resetDelivery.phase = s.phase := by
  obtain ⟨ts, a, h⟩ := s.resetDelivery_only
  rw [h, State.setAlertBlock_phase, State.setTimers_phase, State.setSources_phase]
  rfl

/-- A source after RESET DELIVERY is IDLE, or PENDING with its line asserted (R23). -/
theorem State.resetDelivery_state (s : State) (x : SourceId) :
    (s.resetDelivery.source x).state = .idle ∨
      (s.resetDelivery.source x).state = .pending ∧ s.isAsserted x = true := by
  rw [State.resetDelivery_source]
  by_cases h : s.raisedByDelivery x = true
  · rw [if_pos h]
    simp only [State.raisedByDelivery, Bool.and_eq_true] at h
    exact .inr ⟨rfl, h.2⟩
  · rw [if_neg h]
    exact .inl rfl

theorem State.resetDelivery_lawful (s : State) : s.resetDelivery.DeliveryLawful where
  sources := fun x => by
    rw [State.resetDelivery_source]
    by_cases h : s.raisedByDelivery x = true
    · rw [if_pos h]
      simp only [State.raisedByDelivery, Bool.and_eq_true, bne_iff_ne] at h
      exact Source.raisedAt_lawful (r := (s.source x).cleared) _ h.1 _
    · rw [if_neg h]
      exact Source.cleared_lawful _ _
  sessions := fun d => by rw [State.resetDelivery_session]; exact Session.reset_lawful
  lists := fun d => by
    rw [State.resetDelivery_session]
    have hst : ∀ x, ¬ (s.resetDelivery.source x).IsOut := fun x =>
      (s.resetDelivery_state x).elim Source.not_out_of_idle fun k => Source.not_out_of_pending k.1
    have ho : ∀ x, (s.resetDelivery.source x).state ≠ .offered := fun x k => hst x (.inl k)
    have hi : ∀ x, (s.resetDelivery.source x).state ≠ .inService := fun x k => hst x (.inr k)
    simp [Session.reset, ho, hi]
  sending := fun d => by rw [State.resetDelivery_session]; simp [Session.reset]

/-! ## Every happening keeps the laws -/

theorem State.DeliveryLawful.keeps {s t : State} (h : s.DeliveryLawful) (ht : s.Happening t) : t.DeliveryLawful := by
  cases ht with
  | elsewhere hs _ hx hd => exact h.keeps_elsewhere hs hx hd
  | source x hs _ hx hy hd => exact h.keeps_source hs rfl hx hy hd
  | lineConfigured n l hi => exact h.keeps_lineConfigured hi
  | status d st p hst hp hq => exact h.keeps_status hst hp hq
  | accepted d o ho => exact h.keeps_accepted ho
  | returned d o n ho => exact h.keeps_returned ho
  | finished d x hs hh => exact h.keeps_finished hs hh
  | finishedTop d e he => exact h.keeps_finishedTop he
  | closed d => exact h.keeps_closed d
  | stalled d p dn hp => exact h.keeps_stalled dn hp
  | owed d dn o ho ha hn => exact h.keeps_owed ho ha hn
  | frameStarts hf => exact h.keeps_frameStarts hf
  | frameGone hf => exact h.keeps_frameGone hf
  | evtGone d dn hf => exact h.keeps_evtGone hf
  | resetFull _ hx hs => exact .of_reset hx hs
  | resetDelivery => exact s.resetDelivery_lawful

theorem State.DeliveryLawful.keeps_runs {s t : State} (h : s.DeliveryLawful) (ht : s.Runs t) : t.DeliveryLawful := by
  induction ht with
  | refl => exact h
  | tail _ hc ih => exact ih.keeps hc

/-! ## No happening leaves the running part -/

theorem State.countedOccurrence_phase (s : State) (x : SourceId) : (s.countedOccurrence x).phase = s.phase := by
  obtain ⟨ts, h⟩ := s.countedOccurrence_only x
  rw [h]
  rfl

theorem State.pickFrame_phase (s : State) : s.pickFrame.phase = s.phase := by
  obtain ⟨-, -, h, -⟩ | e | ⟨d, o, s', ha, e⟩ := s.pickFrame_cases
  · exact h
  · rw [e]
  · rw [e]
    obtain ⟨-, ⟨_, _, _, rfl⟩ | ⟨_, _, _, _, rfl⟩⟩ := State.pollAnswer_cases ha <;> rfl

theorem State.acceptOffer_only (s : State) (d : Deliv) (o : Offer) :
    ∃ src ses, s.acceptOffer d o = (s.setSources src).setSessions ses := by
  unfold State.acceptOffer
  dsimp only
  split
  · exact ⟨_, _, rfl⟩
  · exact ⟨_, _, rfl⟩

theorem State.giveBack_only (s : State) (d : Deliv) (o : Offer) (n : Nat) :
    ∃ src ses, s.giveBack d o n = (s.setSources src).setSessions ses := by
  obtain ⟨src, h⟩ := ((s.setSession d ((s.session d).withoutOffer o.dn)).merge o).holdReturned_only o.source n
  exact ⟨src, _, h⟩

theorem State.closeSession_only (s : State) (d : Deliv) :
    ∃ src, s.closeSession d =
      ((((s.setSources src).setSession d { s.session d with
        status := .closed, offers := [], inService := [], stall := .empty }).setStallOwed d false).setCapture
        (s.capture.filter fun c => c.owner != sessionNumber d)) ∧
      src = ((s.mergeAll (s.session d).offers).completeAll (s.session d).inService).sources := by
  obtain ⟨src, h⟩ := s.withdrawn_only (s.session d)
  exact ⟨src, by simp only [State.closeSession, State.releaseOwned_eq, h]; rfl, by rw [h]; rfl⟩

/-- Writing a session as it stands changes nothing. -/
theorem State.setSession_session (s : State) (d : Deliv) : s.setSession d (s.session d) = s := by
  simp only [State.setSession, State.session, State.setSessions, Fin.getElem_fin, Vector.set_getElem_self]

theorem State.startAckDeadline_only (s : State) (d : Deliv) (dn : Byte) :
    ∃ v : List Offer, s.startAckDeadline d dn = s.setSession d { s.session d with offers := v } := by
  unfold State.startAckDeadline
  dsimp only
  split
  · exact ⟨(s.session d).offers, (s.setSession_session d).symm⟩
  · exact ⟨_, rfl⟩

theorem State.Happening.phase {s t : State} (h : s.Happening t) : t.phase = s.phase := by
  cases h with
  | elsewhere hs _ _ _ => exact hs.phase
  | source x hs _ _ _ _ => exact hs.phase
  | lineConfigured n l _ => rfl
  | status d st p _ _ _ => rfl
  | accepted d o _ =>
    obtain ⟨src, ses, e⟩ := s.acceptOffer_only d o
    rw [e]
    rfl
  | returned d o n _ =>
    obtain ⟨src, ses, e⟩ := s.giveBack_only d o n
    rw [e]
    rfl
  | finished d x _ _ => rfl
  | finishedTop d e _ => rfl
  | closed d =>
    obtain ⟨src, e, -⟩ := s.closeSession_only d
    rw [e]
    rfl
  | stalled d p dn _ =>
    obtain ⟨src, e⟩ := s.stallSession_only d p dn
    rw [e]
    rfl
  | owed d dn o _ _ _ => rfl
  | frameStarts _ => exact s.pickFrame_phase
  | frameGone _ => rfl
  | evtGone d dn _ =>
    obtain ⟨v, e⟩ := s.frameGone.startAckDeadline_only d dn
    rw [e]
    rfl
  | resetFull hp _ _ => exact hp
  | resetDelivery => exact s.resetDelivery_phase

theorem State.Runs.phase {s t : State} (h : s.Runs t) : t.phase = s.phase := by
  induction h with
  | refl => rfl
  | tail _ hc ih => exact hc.phase.trans ih

end Sys2Proof.Machine
end

section
/-! Every command is a chain of happenings, leaves a part that is held in reset held, or restarts it. -/

namespace Sys2Proof.Machine

/-! ## Chains that change nothing the laws read -/

section
variable {s t u : State}

/-- The blocks the laws of delivery read are left alone. -/
theorem State.Runs.of_blocks (hp : t.phase = s.phase) (hl : t.lines = s.lines) (hx : t.sources = s.sources)
    (hs : t.sessions = s.sessions) (hf : t.transmitter.frame = s.transmitter.frame) : s.Runs t :=
  .single (.elsewhere (.of_blocks hp hl hf) (State.isAsserted_congr hl) (State.source_congr hx) (State.session_congr hs))

theorem State.Happening.runs (h : s.Happening t) : s.Runs t := .single h

/-- A happening judged by the alert output, which the laws of delivery do not read (R97). -/
theorem State.Runs.judged (h : s.Runs t) (b : State) : s.Runs (t.judged b) := h.trans (State.Runs.of_blocks rfl rfl rfl rfl rfl)

/-- What is done to the link and the clock before a chain. -/
theorem State.Runs.after (h : t.Runs u) (hp : t.phase = s.phase) (hl : t.lines = s.lines) (hx : t.sources = s.sources)
    (hs : t.sessions = s.sessions) (hf : t.transmitter.frame = s.transmitter.frame) : s.Runs u :=
  (State.Runs.of_blocks hp hl hx hs hf).trans h

end

/-! ## Lines, timers and source records -/

/-- A write of one source's record, with the timers and the alert output left free. -/
theorem State.Runs.of_source {s : State} {x : SourceId} {r : Source} (ts : Vector Timer 8)
    (h : (s.source x).Step (s.isLevelType x) (s.isAsserted x) (s.isAsserted x) r) : s.Runs ((s.setSource x r).setTimers ts) := by
  refine .single (.source x (.of_blocks rfl rfl rfl) (fun _ _ => rfl) ?_ (fun y hy => ?_) fun _ => rfl)
  · rw [State.source_setTimers, State.source_setSource, if_pos rfl]
    exact h
  · rw [State.source_setTimers, State.source_setSource, if_neg hy.symm]

/-- The source of a timer is not level-type (R2). -/
theorem State.isLevelType_timerSource (s : State) (k : TimerId) : s.isLevelType (timerSource k) = false := by
  simp [State.isLevelType]

theorem State.runs_expiryTaken (s : State) (e : TimerId × Tick) : s.Runs (s.expiryTaken e) :=
  (State.Runs.of_source s.timeUnit.timers (.occurs e.2 (s.isLevelType_timerSource e.1))).judged s

theorem State.runs_takeExpiry (s : State) (e : TimerId × Tick) : s.Runs (s.takeExpiry e) :=
  s.takeExpiry_eq e ▸ s.runs_expiryTaken e

theorem State.runs_takeExpiries (s : State) (es : List (TimerId × Tick)) : s.Runs (s.takeExpiries es) := by
  induction es generalizing s with
  | nil => exact .refl
  | cons e es ih => exact (s.runs_takeExpiry e).trans (ih (s.takeExpiry e))

theorem State.runs_flushExpiries (s : State) : s.Runs s.flushExpiries :=
  (State.runs_takeExpiries (s.setDueExpiries []) _).after rfl rfl rfl rfl rfl

theorem State.runs_tickOnce (s : State) : s.Runs s.tickOnce :=
  s.runs_flushExpiries.trans ((State.runs_takeExpiries s.flushExpiries.advanceTick _).after rfl rfl rfl rfl rfl)

theorem State.runs_ticks (n : Nat) (s : State) : s.Runs (State.ticks n s) := by
  induction n generalizing s with
  | zero => exact .refl
  | succ n ih => exact s.runs_tickOnce.trans (ih s.tickOnce)

theorem State.runs_tickFor (s : State) (k : TimerId) : s.Runs (s.tickFor k) := by
  have h : ∀ (due : List (TimerId × Tick)) (e : TimerId × Tick),
      s.flushExpiries.Runs ((s.flushExpiries.advanceTick.setDueExpiries due).takeExpiry e) := fun due e =>
    (State.runs_takeExpiry (s.flushExpiries.advanceTick.setDueExpiries due) e).after rfl rfl rfl rfl rfl
  exact s.runs_flushExpiries.trans (h _ _)

/-- The report of a sense and a new level makes a step of the record, whose line is then at that level (R5, R6, R7, R109). -/
theorem Source.reportTaken_step (r : Source) (e : Sense) (level was : Bool) (t : Tick) :
    r.Step e.isLevel was (e.assertedLevel == some level) (r.reportTaken (e.report level) t) := by
  have hraise : ∀ {l is : Bool}, is = true → r.Step l was is (r.reportTaken .assertion t) := fun hi => by
    unfold Source.reportTaken
    by_cases h : r.state = .idle ∧ r.admission ≠ .off
    · simp only [if_pos h]
      exact .raised r.admission t h.2 h.1 hi
    · simp only [if_neg h]
      exact .stays fun _ _ _ => hi
  have hdrop : ∀ {l is : Bool}, r.Step l was is (r.reportTaken .deassertion t) := by
    intro l is
    unfold Source.reportTaken
    by_cases h : r.state = .pending
    · simp only [if_pos h]
      exact .withdrawn h
    · simp only [if_neg h]
      exact .stays fun _ hp => absurd hp h
  cases e <;> cases level
  case rise.false | fall.true => exact .stays nofun
  case rise.true | fall.false | both.true | both.false => exact .occurs t rfl
  case high.true | low.false => exact hraise rfl
  case high.false | low.true => exact hdrop

theorem State.isLevelType_lineSource (s : State) (n : LineId) : s.isLevelType (lineSource n) = (s.line n).sense.isLevel := by
  simp [State.isLevelType]

theorem State.isAsserted_lineSource (s : State) (n : LineId) : s.isAsserted (lineSource n) = (s.line n).isAsserted := by
  simp [State.isAsserted]

/-- A write of one line's levels and run count keeps the type of every source (R2, R106, R107). -/
theorem State.isLevelType_setLine (s : State) (n : LineId) {l : Line} (h : l.sense = (s.line n).sense) (x : SourceId) :
    (s.setLine n l).isLevelType x = s.isLevelType x := by
  unfold State.isLevelType
  cases hx : lineOf x with
  | none => rfl
  | some m => by_cases hn : n = m <;> simp [hn, h]

/-- A write of one line is seen by its own source alone. -/
theorem State.isAsserted_setLine_of_ne (s : State) {n : LineId} (l : Line) {x : SourceId} (h : x ≠ lineSource n) :
    (s.setLine n l).isAsserted x = s.isAsserted x := by
  unfold State.isAsserted
  cases hx : lineOf x with
  | none => rfl
  | some m =>
    have hn : n ≠ m := fun e => h (lineOf_eq_some.mp (e ▸ hx))
    simp [hn]

theorem State.runs_levelTaken (s : State) (n : LineId) (level : Bool) : s.Runs (s.levelTaken n level) := by
  obtain ⟨ts, a, e⟩ := s.levelTaken_only n level
  rw [e]
  set l : Line := { s.line n with raw := level, filtered := level, runCount := 0 } with hl
  refine .single (.source (lineSource n) ⟨rfl, s.isLevelType_setLine n (l := l) rfl, rfl⟩
    (fun y hy => s.isAsserted_setLine_of_ne l hy) ?_ (fun y hy => ?_) fun _ => rfl)
  · have h1 : (s.setLine n l).isLevelType (lineSource n) = (s.line n).sense.isLevel := by
      rw [State.isLevelType_lineSource, State.line_setLine, if_pos rfl]
    have h2 : (s.setLine n l).isAsserted (lineSource n) = ((s.line n).sense.assertedLevel == some level) := by
      rw [State.isAsserted_lineSource, State.line_setLine, if_pos rfl]
      rfl
    have h3 := (s.source (lineSource n)).reportTaken_step (s.line n).sense level (s.isAsserted (lineSource n)) s.now
    rw [← h1, ← h2] at h3
    rw [State.source_setAlertBlock, State.source_setTimers, State.source_setSource, if_pos rfl]
    exact h3
  · rw [State.source_setAlertBlock, State.source_setTimers, State.source_setSource, if_neg hy.symm, State.source_setLine]

theorem State.runs_changeLevel (s : State) (n : LineId) (level : Bool) : s.Runs (s.changeLevel n level) :=
  s.changeLevel_eq n level ▸ s.runs_levelTaken n level

/-- A sample that leaves the filtered level of its line where it stands (R106, R107). -/
theorem State.runs_setLine (s : State) (n : LineId) {l : Line} (h : l.sense = (s.line n).sense)
    (hf : l.filtered = (s.line n).filtered) : s.Runs (s.setLine n l) := by
  refine .single (.elsewhere ⟨rfl, s.isLevelType_setLine n h, rfl⟩ (fun x => ?_) (fun _ => rfl) fun _ => rfl)
  by_cases hx : x = lineSource n
  · subst hx
    rw [State.isAsserted_lineSource, State.isAsserted_lineSource, State.line_setLine, if_pos rfl, Line.isAsserted, h, hf]
    rfl
  · exact s.isAsserted_setLine_of_ne l hx

theorem State.runs_sampleLine (s : State) (levels : BitVec 24) (n : LineId) : s.Runs (s.sampleLine levels n) := by
  unfold State.sampleLine
  dsimp only
  split
  · exact s.runs_setLine n rfl rfl
  · split
    · exact s.runs_setLine n rfl rfl
    · exact s.runs_changeLevel n _

theorem State.runs_samples (ns : List LineId) (levels : BitVec 24) (s : State) :
    s.Runs (ns.foldl (fun t n => t.sampleLine levels n) s) := by
  induction ns generalizing s with
  | nil => exact .refl
  | cons n ns ih => exact (s.runs_sampleLine levels n).trans (ih _)

theorem State.runs_changeAdmission (s : State) (x : SourceId) (a : Admission) : s.Runs (s.changeAdmission x a) := by
  obtain ⟨-, -, e⟩ | ⟨-, -, e⟩ | ⟨ha, -, e⟩ | ⟨-, ha, hi, has, e⟩ := s.changeAdmission_cases x a
  · rw [e]
  · rw [e]
    exact .of_source s.timeUnit.timers .admissionOff
  · rw [e]
    exact .of_source s.timeUnit.timers (.settings a _ _ _ _ _ (.inr ha) (.inl rfl) (.inl rfl) fun _ _ h => h)
  · obtain ⟨ts, e'⟩ := State.restartGaps_only (s.setSource x { s.source x with
      admission := a, state := .pending, count := 1, firstTime := some s.now, lastTime := some s.now }) x
    rw [e, e']
    exact .of_source ts (.raised a s.now ha hi has)

end Sys2Proof.Machine
end

section
/-! Every command is a chain of happenings, leaves a part that is held in reset held, or restarts it; so every step keeps the
laws of delivery and of the held reset. -/

namespace Sys2Proof.Machine

/-! ## Requests -/

theorem fieldBelow_lt {n : Nat} {b : Byte} {x : Fin n} (h : fieldBelow n b = some x) : b.toNat = x.val := by
  unfold fieldBelow at h
  split at h
  · cases h
    rfl
  · cases h

/-- The parameters that OPEN and SET_SESSION read are in their ranges (R75, R77). -/
theorem readParams_lawful {payload : List Byte} {p : Params} (h : readParams payload = some p) : p.Lawful := by
  unfold readParams at h
  split at h
  · rename_i b0 b1 b2 b3 b4 b5
    split at h
    · split at h
      · rename_i hc
        cases h
        obtain ⟨h1, h2, h3, h4, h5⟩ := hc
        have := b3.isLt
        have := b5.isLt
        exact ⟨h1, h2, h5, h3, by dsimp only; omega, h4, by dsimp only; omega⟩
      · cases h
    · cases h
  · cases h

theorem onDelivery_runs {f : Deliv → List Byte → State → Answer} {s : State} (h : ∀ d payload, (f d payload s).RunsFrom s)
    (σ : SessId) (payload : List Byte) : (onDelivery f σ payload s).RunsFrom s := by
  unfold onDelivery
  split
  · exact h _ _
  · exact .refl

/-- A lawful change of mode or window is one of a session with empty lists (R84). -/
theorem Session.shapeLocked_eq_false {v : Session} {q p : Params} (h : ¬ v.shapeLocked q p = true) :
    (p.mode = q.mode ∧ p.window = q.window) ∨ v.load = 0 := by
  by_cases hl : v.load = 0
  · exact .inr hl
  · simp only [Session.shapeLocked, Bool.and_eq_true, Bool.or_eq_true, bne_iff_ne, not_and_or, not_or, not_not] at h
    obtain ⟨h1, h2⟩ | h := h
    · exact .inl ⟨h1.symm, h2.symm⟩
    · exact absurd h hl

/-- Every owner's effect is a chain of happenings (R176). -/
theorem Request.owner_runs (r : Request) (σ : SessId) (payload : List Byte) (s : State) :
    (r.owner σ payload s).RunsFrom s := by
  have ite_runs : ∀ {c : Prop} [Decidable c] {a b : Answer}, (c → a.RunsFrom s) → (¬c → b.RunsFrom s) →
      (if c then a else b).RunsFrom s := fun ha hb => by
    split
    · exact ha ‹_›
    · exact hb ‹_›
  cases r
  case configSource =>
    simp only [Request.owner, ownConfigSource]
    split
    · exact .refl
    · refine ite_runs (fun hs => ?_) fun _ => .refl
      have ho : ¬ (s.source _).IsOut := hs.elim Source.not_out_of_idle Source.not_out_of_pending
      exact (State.Runs.of_source s.timeUnit.timers
        (.settings _ _ _ _ _ _ (.inl rfl) (.inr ho) (.inl rfl) fun _ _ h => h)).judged s
  case setAdmission =>
    simp only [Request.owner, ownSetAdmission]
    split
    · exact .refl
    · exact (s.runs_changeAdmission _ _).judged s
  case configLine =>
    simp only [Request.owner, ownConfigLine]
    split
    · exact .refl
    · exact ite_runs (fun hi => (State.Happening.lineConfigured _ _ hi).runs) fun _ => .refl
  case configTimer =>
    simp only [Request.owner, ownConfigTimer]
    split
    · exact .refl
    · exact ite_runs (fun _ => .of_blocks rfl rfl rfl rfl rfl) fun _ =>
        ite_runs (fun _ => .of_blocks rfl rfl rfl rfl rfl) fun _ => .refl
  case startTimer | stopTimer | setAlert | reset =>
    simp only [Request.owner, ownStartTimer, ownStopTimer, ownSetAlert, ownReset]
    split
    · exact .refl
    · exact .of_blocks rfl rfl rfl rfl rfl
  case setTimebase =>
    simp only [Request.owner, ownSetTimebase]
    split
    · exact .refl
    · exact ite_runs (fun _ => .of_blocks rfl rfl rfl rfl rfl) fun _ => .refl
  case querySource | queryTimer | querySession =>
    simp only [Request.owner, ownQuerySource, ownQueryTimer, ownQuerySession]
    split <;> exact .refl
  case queryLines | readTime => exact .refl
  case snapshot =>
    simp only [Request.owner, ownSnapshot]
    split
    · exact .refl
    · exact s.runs_flushExpiries.trans (State.Runs.of_blocks rfl rfl rfl rfl rfl)
  case readCapture =>
    simp only [Request.owner, ownReadCapture]
    split
    · exact .refl
    · split
      · exact .refl
      · exact ite_runs (fun _ => .of_blocks rfl rfl rfl rfl rfl) fun _ => .refl
  case discardCapture =>
    simp only [Request.owner, ownDiscardCapture]
    split
    · exact .refl
    · exact ite_runs (fun _ => .of_blocks rfl rfl rfl rfl rfl) fun _ => .refl
  case openSession =>
    refine onDelivery_runs (fun d payload => ?_) σ payload
    dsimp only
    split
    · exact .refl
    · rename_i p hp
      split
      · rename_i hs
        exact (State.Happening.status d _ p (.inl rfl) (.inl (readParams_lawful hp))
          (by simp [Session.params, hs])).runs
      · exact .refl
      · exact .refl
  case close =>
    refine onDelivery_runs (fun d payload => ?_) σ payload
    split
    · exact .refl
    · exact (State.Happening.closed d).runs.judged s
    · exact (State.Happening.closed d).runs.judged s
  case setSession =>
    refine onDelivery_runs (fun d payload => ?_) σ payload
    dsimp only
    split
    · exact .refl
    · rename_i p hp
      split
      · exact .refl
      · rename_i q hs
        refine ite_runs (fun _ => .refl) fun hl => (State.Happening.status d _ p (.inl rfl) (.inl (readParams_lawful hp)) ?_).runs
        simpa [Session.params, hs] using Session.shapeLocked_eq_false hl
      · rename_i q hs
        refine ite_runs (fun _ => .refl) fun hl => (State.Happening.status d _ p (.inr ⟨rfl, by simp [Session.isActive, hs]⟩)
          (.inl (readParams_lawful hp)) ?_).runs
        simpa [Session.params, hs] using Session.shapeLocked_eq_false hl
  case resume =>
    refine onDelivery_runs (fun d payload => ?_) σ payload
    dsimp only
    split
    · exact .refl
    · exact .refl
    · rename_i p hs
      exact (State.Happening.status d _ p (.inl rfl) (.inr (by simp [Session.params, hs]))
        (by simp [Session.params, hs])).runs
  case accept =>
    refine onDelivery_runs (fun d payload => ?_) σ payload
    dsimp only
    split
    · exact .refl
    · split
      · exact .refl
      · exact .refl
      · split
        · exact .refl
        · rename_i o ho
          have hdn := List.find?_some ho
          rw [beq_iff_eq] at hdn
          subst hdn
          exact (State.Happening.accepted d o ho).runs.judged s
  case returnOffer =>
    refine onDelivery_runs (fun d payload => ?_) σ payload
    dsimp only
    split
    · exact .refl
    · split
      · exact .refl
      · exact .refl
      · split
        · exact .refl
        · rename_i o ho
          have hdn := List.find?_some ho
          rw [beq_iff_eq] at hdn
          subst hdn
          exact (State.Happening.returned d o _ ho).runs.judged s
  case done =>
    refine onDelivery_runs (fun d payload => ?_) σ payload
    dsimp only
    split
    · exact .refl
    · split
      · exact .refl
      all_goals exact ite_runs (fun h => (State.Happening.finished d _ h.1 h.2).runs.judged s) fun _ => .refl
  case doneTop =>
    refine onDelivery_runs (fun d payload => ?_) σ payload
    dsimp only
    split
    · exact .refl
    all_goals
      split
      · exact .refl
      · rename_i e he
        exact (State.Happening.finishedTop d e he).runs.judged s

/-- The reply and the cache entry of an answer are placed outside the records that the laws of delivery read (R174, R179). -/
theorem Answer.runs_place (a : Answer) (slot : SlotId) (σ : SessId) (f : ReqFrame) : a.next.Runs (a.place slot σ f) :=
  .of_blocks rfl rfl rfl rfl rfl

/-- A good frame whose owner's effect is a chain of happenings is one itself (R159, R174, R176). -/
theorem State.runs_goodFrame {owner : Owner} (h : ∀ σ payload t, (owner σ payload t).RunsFrom t) (s : State) (f : ReqFrame) :
    s.Runs (s.goodFrame owner f) := by
  have hanswer : ∀ (t : State) σ type payload, (answerOf owner σ type payload t).RunsFrom t := fun t σ type payload => by
    unfold answerOf
    split
    · exact .refl
    · exact h _ _ _
  have hexec : ∀ (t : State) slot, t.Runs (t.execute owner slot f) := fun t slot => by
    unfold State.execute
    split
    · dsimp only
      split
      · exact .of_blocks rfl rfl rfl rfl rfl
      · exact (hanswer t _ _ _).trans (Answer.runs_place _ _ _ _)
    · exact .of_blocks rfl rfl rfl rfl rfl
  unfold State.goodFrame
  dsimp only
  split
  · split
    · exact .of_blocks rfl rfl rfl rfl rfl
    · split
      · exact .of_blocks rfl rfl rfl rfl rfl
      · exact (hexec _ _).after rfl rfl rfl rfl rfl
  · exact .refl

theorem State.runs_request (s : State) (r : Request) (f : ReqFrame) : s.Runs (s.goodFrame r.owner f) :=
  s.runs_goodFrame r.owner_runs f

theorem State.runs_anyGoodFrame (s : State) (f : ReqFrame) : s.Runs (s.anyGoodFrame f) := by
  refine s.runs_goodFrame (fun σ payload t => ?_) f
  cases h : Request.ofCode f.type with
  | some r =>
    rw [show ownerOfCode f.type = r.owner by simp [ownerOfCode, h]]
    exact r.owner_runs σ payload t
  | none =>
    rw [show ownerOfCode f.type = fun _ _ s => .refuse .unknownType s by simp [ownerOfCode, h]]
    exact .refl

/-! ## Characters and frames -/

theorem State.runs_takeFault (s : State) : s.Runs s.takeFault := .of_blocks rfl rfl rfl rfl rfl

theorem State.runs_intoFrame (s : State) (f : Framing) : s.Runs (s.intoFrame f) := .of_blocks rfl rfl rfl rfl rfl

theorem State.runs_takeCharacter (s : State) (v : Byte) : s.Runs (s.takeCharacter v) := by
  unfold State.takeCharacter
  split
  · split
    · exact s.runs_intoFrame _
    · exact .refl
  · split
    · exact s.runs_intoFrame _
    · exact s.runs_takeFault
  · exact s.runs_intoFrame _
  · exact s.runs_intoFrame _
  · split <;> exact s.runs_intoFrame _
  · dsimp only
    split <;> exact s.runs_intoFrame _
  · exact s.runs_intoFrame _
  · split
    · exact s.runs_anyGoodFrame _
    · exact s.runs_takeFault

theorem State.runs_pickFrame {s : State} (h : s.transmitter.frame = none) : s.Runs s.pickFrame :=
  (State.Happening.frameStarts h).runs

/-- A reset of every block (R22, R90, R140, R169). -/
theorem State.resetAll_source (s : State) (n : Option Instant) (c : Option Cause) (x : SourceId) :
    (s.resetAll n c).source x = Source.reset := by simp [State.resetAll, State.source]

theorem State.resetAll_session (s : State) (n : Option Instant) (c : Option Cause) (d : Deliv) :
    (s.resetAll n c).session d = Session.reset := by
  simp [State.resetAll, State.session, State.resetLines, State.resetLink]

theorem State.runs_takeReset (s : State) (scope : Scope) : s.Runs (s.takeReset scope) := by
  cases scope with
  | full =>
    have hp : s.resetFull.phase = s.phase := by simp [State.resetFull, State.resetAll, State.resetLines, State.resetLink]
    exact (State.Happening.resetFull hp (s.resetAll_source _ _) (s.resetAll_session _ _)).runs
  | delivery =>
    have h : s.Happening s.resetDelivery := .resetDelivery
    exact h.runs

/-- A reset leaves LTX idle (R169). -/
theorem State.takeReset_frame (s : State) (scope : Scope) : (s.takeReset scope).transmitter.frame = none := by
  cases scope with
  | full => rfl
  | delivery =>
    obtain ⟨ts, a, h⟩ := s.resetDelivery_only
    simp only [State.takeReset, h, State.setAlertBlock_transmitter, State.setTimers_transmitter, State.setSources_transmitter]
    rfl

theorem State.startAckDeadline_transmitter (s : State) (d : Deliv) (dn : Byte) :
    (s.startAckDeadline d dn).transmitter = s.transmitter := by
  obtain ⟨v, h⟩ := s.startAckDeadline_only d dn
  rw [h, State.setSession_transmitter]

theorem State.runs_replyEnded (s : State) (hf : s.transmitter.frame = none) (slot : SlotId) (starts : Bool) (order : EndOrder) :
    s.Runs (s.replyEnded slot starts order) := by
  have hrel : ∀ t : State, t.Runs (t.releaseSlot slot) := fun t => .of_blocks rfl rfl rfl rfl rfl
  unfold State.replyEnded
  split
  · exact ((hrel s).trans (State.runs_takeReset _ _)).trans (State.runs_pickFrame (State.takeReset_frame _ _))
  · cases order
    · exact (hrel s).trans (State.runs_pickFrame hf)
    · exact (State.runs_pickFrame hf).trans (hrel _)

theorem State.runs_frameEnded {s : State} {f : TxFrame} (h : s.transmitter.frame = some f) (order : EndOrder) :
    s.Runs (s.frameEnded f.kind order) := by
  have hl : s.onLine = some f.kind := by simp [State.onLine, h]
  have hgone : (∀ d dn, f.kind ≠ .evt d dn) → s.Runs s.frameGone := fun hk =>
    (State.Happening.frameGone fun d dn e => hk d dn (Option.some.inj (hl.symm.trans e))).runs
  unfold State.frameEnded
  dsimp only
  split
  case h_1 slot starts hk => exact (hgone (by simp [hk])).trans (State.runs_replyEnded _ rfl _ _ _)
  case h_2 d dn hk =>
    refine (State.Happening.evtGone d dn (hl.trans (congrArg some hk))).runs.trans (State.runs_pickFrame ?_)
    rw [State.startAckDeadline_transmitter]
    rfl
  case h_3 hk => exact (hgone (by simp [hk])).trans (State.runs_pickFrame rfl)
  case h_4 hk => exact (hgone (by simp [hk])).trans (State.runs_pickFrame rfl)
  case h_5 d hk => exact (hgone (by simp [hk])).trans (State.runs_pickFrame rfl)

/-! ## The clock -/

theorem State.runs_reach (s : State) (t : Instant) : s.Runs (s.reach t) := .of_blocks rfl rfl rfl rfl rfl

/-- An AWAITING offer is the one its DN names, with its deadline (R48, R51). -/
theorem State.awaiting_eq_some {s : State} {d : Deliv} {dn : Byte} {o : Offer} {t : Instant} (h : s.awaiting d dn = some (o, t)) :
    (s.session d).offers.find? (fun o => o.dn == dn) = some o ∧ o.ackDeadline = some t := by
  unfold State.awaiting at h
  split at h
  · rename_i q hq
    cases ht : q.ackDeadline with
    | none => simp [ht] at h
    | some u =>
      simp only [ht, Option.map_some, Option.some.injEq, Prod.mk.injEq] at h
      obtain ⟨rfl, rfl⟩ := h
      exact ⟨hq, ht⟩
  · cases h

end Sys2Proof.Machine
end

section
/-! What every command does to the records that the laws of delivery read: it is a chain of happenings, leaves a part that is
held in reset held, or restarts it. -/

namespace Sys2Proof.Machine

/-! ## Every command -/

theorem State.heldInReset_restarted (s : State) (p : Phase) : (s.heldInReset p).Restarted where
  source := s.resetAll_source none none
  session := s.resetAll_session none none
  held := fun _ => ⟨rfl, rfl, rfl⟩

theorem State.endReset_restarted (s : State) (c : Cause) (br1 br0 : Bool) : (s.endReset c br1 br0).Restarted where
  source := fun x => by simp [State.endReset, State.resetAll_source]
  session := fun d => by simp [State.endReset, State.resetAll_session]
  held := fun h => by simp [State.endReset] at h

theorem State.Outcome.of_same (s : State) : s.Outcome s := by
  by_cases hp : s.phase = .running
  · exact .runs hp .refl
  · exact .held ⟨hp, hp, fun _ => rfl, fun _ => rfl, fun _ => rfl, rfl, rfl, rfl⟩

theorem State.isRunning_iff {s : State} : s.isRunning = true ↔ s.phase = .running := by simp [State.isRunning]

/-- A command that acts on the running part alone. -/
theorem State.Outcome.of_running {s t : State} (h : s.isRunning = true → s.Runs t) (h' : s.isRunning = false → t = s) :
    s.Outcome t := by
  cases hr : s.isRunning with
  | true => exact .runs (State.isRunning_iff.mp hr) (h hr)
  | false => exact h' hr ▸ .of_same s

theorem Request.outcome (r : Request) (s : State) (f : ReqFrame) : s.Outcome (s.goodFrame r.owner f) :=
  .of_running (fun _ => s.runs_request r f) fun h => s.goodFrame_held _ _ h

/-- A sample while the part is held in reset writes the levels of the lines alone (R117). -/
theorem State.sampleInReset_held {s : State} (h : s.phase ≠ .running) (levels : BitVec 24) (n : LineId) :
    s.StaysHeld (s.sampleInReset levels n) :=
  ⟨h, h, s.isLevelType_setLine n rfl, fun _ => rfl, fun _ => rfl, rfl, rfl, rfl⟩

theorem State.StaysHeld.trans {s t u : State} (h : s.StaysHeld t) (h' : t.StaysHeld u) : s.StaysHeld u :=
  ⟨h.before, h'.after, fun x => (h'.elsewhere x).trans (h.elsewhere x), fun x => (h'.source x).trans (h.source x),
    fun d => (h'.session d).trans (h.session d), h'.frame.trans h.frame, h'.arrivals.trans h.arrivals,
    h'.nextTick.trans h.nextTick⟩

theorem State.samplesInReset_held (ns : List LineId) {s t : State} (h : s.StaysHeld t) (levels : BitVec 24) :
    s.StaysHeld (ns.foldl (fun t n => t.sampleInReset levels n) t) := by
  induction ns generalizing t with
  | nil => exact h
  | cons n ns ih => exact ih (h.trans (State.sampleInReset_held h.after levels n))

/-- An outcome named by the state that the command answers. -/
theorem State.Outcome.of_next {s t u : State} (h : (Host.Outcome.next t : Host.Outcome State Fault Refusal) = .next u)
    (ht : s.Outcome t) : s.Outcome u := by
  cases h
  exact ht

theorem execAckDeadlineExpiry_outcome {s t : State} {d : Deliv} {dn : Byte} (h : execAckDeadlineExpiry d dn s = .next t) :
    s.Outcome t := by
  unfold execAckDeadlineExpiry at h
  split at h
  · rename_i p o due hr hs ha
    obtain ⟨ho, hd⟩ := State.awaiting_eq_some ha
    dsimp only at h
    split at h
    · rename_i hn
      cases h
      exact .runs (State.isRunning_iff.mp hr) ((s.runs_reach due).trans (State.Happening.owed (s := s.reach due) d dn o ho
        (by simp [hd]) (.inr ⟨p, by simp [Session.params, hs], hn⟩)).runs)
    · cases h
      exact .runs (State.isRunning_iff.mp hr) ((s.runs_reach due).trans
        ((State.Happening.stalled (s := s.reach due) d p dn hs).runs.judged _))
  · cases h
    exact .of_same s

theorem execHoldExpiry_outcome {s t : State} {x : SourceId} (h : execHoldExpiry x s = .next t) : s.Outcome t := by
  unfold execHoldExpiry at h
  split at h
  · rename_i due hr _
    cases h
    exact .runs (State.isRunning_iff.mp hr) ((s.runs_reach due).trans ((State.Runs.of_source (s := s.reach due)
      s.timeUnit.timers (.settings _ _ _ _ _ none (.inl rfl) (.inl rfl) (.inr rfl) fun _ _ h => h)).judged _))
  · cases h
    exact .of_same s

theorem execRenewalGapEnd_outcome {s t : State} (h : execRenewalGapEnd s = .next t) : s.Outcome t := by
  unfold execRenewalGapEnd at h
  split at h
  · rename_i due hr _
    cases h
    exact .runs (State.isRunning_iff.mp hr) (.of_blocks rfl rfl rfl rfl rfl)
  · cases h
    exact .of_same s

theorem execTimerExpiry_outcome {s t : State} {k : TimerId} (h : execTimerExpiry k s = .next t) : s.Outcome t := by
  unfold execTimerExpiry at h
  split at h
  · rename_i hr
    have hp := State.isRunning_iff.mp hr
    split at h
    · rename_i e _
      cases h
      have hrun : ∀ due, s.Runs ((s.setDueExpiries due).takeExpiry e) := fun due =>
        (State.runs_takeExpiry (s.setDueExpiries due) e).after rfl rfl rfl rfl rfl
      exact .runs hp (hrun _)
    · split at h
      · cases h
        exact .runs hp ((s.runs_ticks _).trans (State.runs_tickFor _ k))
      · cases h
        exact .of_same s
  · cases h
    exact .of_same s

theorem execLineSample_outcome {s t : State} {levels : BitVec 24} (h : execLineSample levels s = .next t) : s.Outcome t := by
  unfold execLineSample at h
  dsimp only at h
  split at h
  · rename_i hr
    cases h
    exact .runs (State.isRunning_iff.mp hr) ((State.runs_samples _ levels _).after rfl rfl rfl rfl rfl)
  · rename_i hr
    cases h
    have hp : s.phase ≠ .running := fun e => hr (State.isRunning_iff.mpr e)
    have h0 : s.StaysHeld (s.setClock (s.clock + Config.samplePeriod)) :=
      ⟨hp, hp, fun _ => rfl, fun _ => rfl, fun _ => rfl, rfl, rfl, rfl⟩
    exact .held (State.samplesInReset_held _ h0 levels)

/-- The three line reports are a change of level or nothing (R109). -/
theorem State.outcome_changeLevel {s : State} (n : LineId) (level : Bool) (hr : s.isRunning = true) :
    s.Outcome (s.changeLevel n level) := .runs (State.isRunning_iff.mp hr) (s.runs_changeLevel n level)

theorem execPowerOnResetEnd_outcome {s t : State} {br1 br0 : Bool} (h : execPowerOnResetEnd br1 br0 s = .next t) :
    s.Outcome t := by
  unfold execPowerOnResetEnd at h
  split at h
  · cases h
    exact .restarted (State.endReset_restarted _ _ _ _)
  · rename_i since hp
    cases h
    have hn : s.phase ≠ .running := by simp [hp]
    exact .held ⟨hn, hn, fun _ => rfl, fun _ => rfl, fun _ => rfl, rfl, rfl, rfl⟩
  all_goals
    cases h
    exact .of_same s

theorem execRstnAssert_outcome {s t : State} (h : execRstnAssert s = .next t) : s.Outcome t := by
  unfold execRstnAssert at h
  split at h
  · cases h
    exact .restarted (State.heldInReset_restarted _ _)
  · rename_i since low hp
    cases h
    exact .held ⟨by simp [hp], nofun, fun _ => rfl, fun _ => rfl, fun _ => rfl, rfl, rfl, rfl⟩
  · cases h
    exact .of_same s

theorem execRstnRelease_outcome {s t : State} {br1 br0 : Bool} (h : execRstnRelease br1 br0 s = .next t) : s.Outcome t := by
  unfold execRstnRelease at h
  split at h
  · cases h
    exact .restarted (State.endReset_restarted _ _ _ _)
  · rename_i since hp
    split at h
    · cases h
      exact .restarted (State.endReset_restarted _ _ _ _)
    · cases h
      exact .held ⟨by simp [hp], nofun, fun _ => rfl, fun _ => rfl, fun _ => rfl, rfl, rfl, rfl⟩
  all_goals
    cases h
    exact .of_same s

/-- What every command can do to the records that the laws of delivery read. -/
theorem exec_outcome {c : Instr} {s t : State} (h : exec c s = .next t) : s.Outcome t := by
  have hif : ∀ {p : Prop} [Decidable p] {u : State},
      (if p then (.next u : Host.Outcome State Fault Refusal) else .next s) = .next t →
      (p → s.isRunning = true ∧ s.Runs u) → s.Outcome t := by
    intro p _ u h hu
    split at h
    · rename_i hp
      cases h
      exact .runs (State.isRunning_iff.mp (hu hp).1) (hu hp).2
    · cases h
      exact .of_same s
  cases c with
  | configSource => exact .of_next h (Request.outcome .configSource s _)
  | setAdmit => exact .of_next h (Request.outcome .setAdmission s _)
  | configLine => exact .of_next h (Request.outcome .configLine s _)
  | configTimer => exact .of_next h (Request.outcome .configTimer s _)
  | startTimer => exact .of_next h (Request.outcome .startTimer s _)
  | stopTimer => exact .of_next h (Request.outcome .stopTimer s _)
  | setTimebase => exact .of_next h (Request.outcome .setTimebase s _)
  | setAlert => exact .of_next h (Request.outcome .setAlert s _)
  | reset => exact .of_next h (Request.outcome .reset s _)
  | querySource => exact .of_next h (Request.outcome .querySource s _)
  | queryLines => exact .of_next h (Request.outcome .queryLines s _)
  | queryTimer => exact .of_next h (Request.outcome .queryTimer s _)
  | readTime => exact .of_next h (Request.outcome .readTime s _)
  | querySession => exact .of_next h (Request.outcome .querySession s _)
  | snapshot => exact .of_next h (Request.outcome .snapshot s _)
  | readCapture => exact .of_next h (Request.outcome .readCapture s _)
  | discardCapture => exact .of_next h (Request.outcome .discardCapture s _)
  | openSession => exact .of_next h (Request.outcome .openSession s _)
  | close => exact .of_next h (Request.outcome .close s _)
  | setSession => exact .of_next h (Request.outcome .setSession s _)
  | resume => exact .of_next h (Request.outcome .resume s _)
  | accept => exact .of_next h (Request.outcome .accept s _)
  | returnOffer => exact .of_next h (Request.outcome .returnOffer s _)
  | done => exact .of_next h (Request.outcome .done s _)
  | doneTop => exact .of_next h (Request.outcome .doneTop s _)
  | unknownType type sess tag payload =>
    exact .of_next h (.of_running (fun _ => s.runs_anyGoodFrame _) fun hr => s.goodFrame_held _ _ hr)
  | overrun sess tag =>
    simp only [exec, execOverrun] at h
    exact hif h fun hp => ⟨hp.1, State.Runs.of_blocks rfl rfl rfl rfl rfl⟩
  | frameFault cause => cases cause <;> exact hif h fun hp => ⟨hp, s.runs_takeFault⟩
  | gapExceeded =>
    simp only [exec, execGapExceeded] at h
    split at h
    · rename_i due hr _
      exact .of_next h (.runs (State.isRunning_iff.mp hr) (.of_blocks rfl rfl rfl rfl rfl))
    · exact .of_next h (.of_same s)
  | pick =>
    simp only [exec, execPick] at h
    exact hif h fun hp => ⟨hp.1, State.runs_pickFrame hp.2⟩
  | endOfFrame order =>
    simp only [exec, execEndOfFrame] at h
    split at h
    · rename_i f hr hf
      exact .of_next h (.runs (State.isRunning_iff.mp hr) (State.runs_frameEnded hf order))
    · exact .of_next h (.of_same s)
  | ackDeadlineExpiry d dn => exact execAckDeadlineExpiry_outcome h
  | holdExpiry x => exact execHoldExpiry_outcome h
  | renewalGapEnd => exact execRenewalGapEnd_outcome h
  | tick => exact hif h fun hp => ⟨hp, s.runs_tickOnce⟩
  | timerExpiry k => exact execTimerExpiry_outcome h
  | occurrence n level =>
    simp only [exec, execOccurrence] at h
    exact hif h fun hp => ⟨hp.1, s.runs_changeLevel n level⟩
  | assertion n =>
    simp only [exec, execAssertion] at h
    split at h
    · exact hif h fun hp => ⟨hp.1, s.runs_changeLevel n _⟩
    · exact .of_next h (.of_same s)
  | deassertion n =>
    simp only [exec, execDeassertion] at h
    split at h
    · exact hif h fun hp => ⟨hp.1, s.runs_changeLevel n _⟩
    · exact .of_next h (.of_same s)
  | powerOn => exact .of_next h (.restarted (s.heldInReset_restarted _))
  | powerOnResetEnd br1 br0 => exact execPowerOnResetEnd_outcome h
  | rstnAssert => exact execRstnAssert_outcome h
  | rstnRelease br1 br0 => exact execRstnRelease_outcome h
  | lineSample levels => exact execLineSample_outcome h
  | characterCompleted v moment =>
    simp only [exec, execCharacterCompleted] at h
    split at h
    · rename_i hr
      refine .runs (State.isRunning_iff.mp hr) ?_
      split at h
      · cases h
        exact .of_blocks rfl rfl rfl rfl rfl
      · cases h
        exact s.runs_takeCharacter v
      · split at h
        · cases h
          exact .refl
        · cases h
          exact s.runs_takeFault
    · exact .of_next h (.of_same s)

end Sys2Proof.Machine
end

section
/-! The invariants of every step: the laws of delivery (O56), of the held reset and of PENDING level-type sources (O60). -/

namespace Sys2Proof.Machine

/-! ## Steps -/

/-- A step runs the command at the front of the queue, which no law reads. -/
theorem step_outcome {s t : State} (h : step s = .next t) : s.Outcome t := by
  unfold step at h
  split at h
  · exact .of_next h (.of_same s)
  · rename_i c rest _
    cases exec_outcome h with
    | runs hp hr => exact .runs hp (hr.after rfl rfl rfl rfl rfl)
    | held hh => exact .held ⟨hh.before, hh.after, hh.elsewhere, hh.source, hh.session, hh.frame, hh.arrivals, hh.nextTick⟩
    | restarted hr => exact .restarted hr

theorem State.DeliveryLawful.keeps_outcome {s t : State} (h : s.DeliveryLawful) (ht : s.Outcome t) : t.DeliveryLawful := by
  cases ht with
  | runs _ hr => exact h.keeps_runs hr
  | held hh =>
    refine h.of_sources hh.session (by simp only [State.onLine, hh.frame]) fun x => ?_
    rw [hh.source, hh.elsewhere]
    exact ⟨h.sources x, fun d => .refl d _⟩
  | restarted hr => exact .of_reset hr.source hr.session

/-- Settles O56: the laws are kept by every kind of happening, and every step is a chain of happenings, leaves a part held in
reset as it is, or puts every source and session at its reset value. -/
theorem deliveryLawsKept : Obligations.DeliveryLawsKept := by
  intro s t hs hv hl hn h
  obtain ⟨k1, k2, k3, k4⟩ := State.DeliveryLawful.keeps_outcome ⟨hs, hv, hl, hn⟩ (step_outcome h)
  exact ⟨k1, k2, k3, k4⟩

/-! ## PENDING level-type sources (R116) -/

/-- A step of a record keeps a PENDING level-type source on an asserted line. -/
theorem Source.Step.pending_asserted {r r' : Source} {l was is : Bool} (h : l = true → r.state = .pending → was = true)
    (hs : r.Step l was is r') (hl : l = true) (hp : r'.state = .pending) : is = true := by
  cases hs with
  | settings a p pr fb c hold _ _ _ hi => exact hi hl hp (h hl hp)
  | occurs t hn => simp [hn] at hl
  | raised a t _ _ hi => exact hi
  | withdrawn _ => cases hp
  | admissionOff =>
    unfold Source.admissionOff at hp
    by_cases hq : r.state = .pending <;> simp [hq] at hp
    exact absurd hp hq

namespace State.PendingLevelAsserted

variable {s t : State}

/-- With the lines as they were, only a source that newly stands PENDING has to be looked at. -/
theorem of_sources (h : s.PendingLevelAsserted) (hl : t.lines = s.lines)
    (hx : ∀ x, t.source x = s.source x ∨
      ((t.source x).state = .pending → s.isLevelType x = true → s.isAsserted x = true)) : t.PendingLevelAsserted := by
  intro x hlt hp
  rw [State.isLevelType_congr hl] at hlt
  rw [State.isAsserted_congr hl]
  obtain e | k := hx x
  · exact h x hlt (e ▸ hp)
  · exact k hp hlt

theorem merge (h : s.PendingLevelAsserted) (o : Offer) : (s.merge o).PendingLevelAsserted :=
  h.of_sources rfl fun x => by
    rw [State.merge_source]
    split
    · refine .inr fun hp hl => ?_
      obtain hi | ⟨-, ha⟩ := (s.source x).merged_state o (s.isLevelType x) (s.isAsserted x)
      · exact SourceState.noConfusion (hi.symm.trans hp)
      · exact ha hl
    · exact .inl rfl

theorem complete (h : s.PendingLevelAsserted) (x : SourceId) : (s.complete x).PendingLevelAsserted :=
  h.of_sources rfl fun y => by
    rw [State.complete_source]
    split
    · refine .inr fun hp hl => ?_
      obtain hi | ⟨-, ha⟩ := (s.source y).completed_state (s.isLevelType y) (s.isAsserted y) s.now
      · exact SourceState.noConfusion (hi.symm.trans hp)
      · exact ha hl
    · exact .inl rfl

theorem mergeAll (h : s.PendingLevelAsserted) (os : List Offer) : (s.mergeAll os).PendingLevelAsserted := by
  induction os generalizing s with
  | nil => exact h
  | cons o os ih => exact ih (h.merge o)

theorem completeAll (h : s.PendingLevelAsserted) (es : List Entry) : (s.completeAll es).PendingLevelAsserted := by
  induction es generalizing s with
  | nil => exact h
  | cons e es ih => exact ih (h.complete e.source)

theorem holdReturned (h : s.PendingLevelAsserted) (x : SourceId) (n : Nat) : (s.holdReturned x n).PendingLevelAsserted := by
  have hset : ∀ v : Option Instant, (s.setSource x { s.source x with holdUntil := v }).PendingLevelAsserted := fun v =>
    h.of_sources rfl fun y => by
      rw [State.source_setSource]
      split
      · rename_i hy
        subst hy
        exact .inr fun hp hl => h x hl hp
      · exact .inl rfl
  unfold State.holdReturned
  dsimp only
  split
  · exact hset none
  · split
    · exact h
    · exact hset _

theorem keeps (h : s.PendingLevelAsserted) (ht : s.Happening t) : t.PendingLevelAsserted := by
  cases ht with
  | elsewhere hs ha hx _ =>
    intro x hl hp
    rw [ha]
    exact h x (hs.levelType x ▸ hl) (hx x ▸ hp)
  | source x hs ha hx hy _ =>
    intro y hl hp
    by_cases hxy : y = x
    · subst hxy
      exact hx.pending_asserted (fun hl' hp' => h y (hs.levelType y ▸ hl') hp') hl hp
    · rw [ha y hxy]
      exact h y (hs.levelType y ▸ hl) (hy y hxy ▸ hp)
  | lineConfigured n l hi =>
    intro x hl hp
    by_cases hx : x = lineSource n
    · subst hx
      exact SourceState.noConfusion (hi.symm.trans hp)
    · rw [s.isAsserted_setLine_of_ne l hx]
      rw [s.isLevelType_setLine_of_ne l hx] at hl
      exact h x hl hp
  | status d st p _ _ _ => exact h.of_sources rfl fun _ => .inl rfl
  | accepted d o _ =>
    unfold State.acceptOffer
    dsimp only
    split
    · refine h.of_sources rfl fun x => ?_
      rw [State.source_setSession, State.source_setSource]
      split
      · exact .inr nofun
      · exact .inl rfl
    · have hs : (s.setSession d ((s.session d).withoutOffer o.dn)).PendingLevelAsserted := h.of_sources rfl fun _ => .inl rfl
      exact hs.complete o.source
  | returned d o n _ =>
    have hs : (s.setSession d ((s.session d).withoutOffer o.dn)).PendingLevelAsserted := h.of_sources rfl fun _ => .inl rfl
    exact (hs.merge o).holdReturned o.source n
  | finished d x _ _ =>
    have hs : ∀ v, (s.setSession d v).PendingLevelAsserted := fun _ => h.of_sources rfl fun _ => .inl rfl
    exact (hs _).complete x
  | finishedTop d e _ =>
    have hs : ∀ v, (s.setSession d v).PendingLevelAsserted := fun _ => h.of_sources rfl fun _ => .inl rfl
    exact (hs _).complete e.source
  | closed d =>
    have hm := (h.mergeAll (s.session d).offers).completeAll (s.session d).inService
    simp only [State.closeSession, State.releaseOwned_eq]
    refine hm.of_sources ?_ fun x => .inl ?_
    · rw [State.setCapture_lines, State.setStallOwed_lines, State.setSession_lines]
    · rw [State.source_setCapture, State.source_setStallOwed, State.source_setSession]
  | stalled d p dn _ => exact (h.mergeAll (s.session d).offers).of_sources rfl fun _ => .inl rfl
  | owed d dn o _ _ _ => exact h.of_sources rfl fun _ => .inl rfl
  | frameStarts _ =>
    obtain ⟨hx, hl, -⟩ | e | ⟨d, o, s', ha, e⟩ := s.pickFrame_cases
    · exact h.of_sources hl fun x => .inl (hx x)
    · rw [e]
      exact h
    · rw [e]
      obtain ⟨-, ⟨q, -, -, rfl⟩ | ⟨x, -, -, -, rfl⟩⟩ := State.pollAnswer_cases ha
      · exact h.of_sources rfl fun _ => .inl rfl
      · refine h.of_sources rfl fun y => ?_
        have e : ((s.createOffer d x).startEvt d o).source y = (s.setSource x ((s.source x).claimed d)).source y := rfl
        rw [e, State.source_setSource]
        split
        · exact .inr nofun
        · exact .inl rfl
  | frameGone _ => exact h.of_sources rfl fun _ => .inl rfl
  | evtGone d dn _ =>
    obtain ⟨v, e⟩ := s.frameGone.startAckDeadline_only d dn
    rw [e]
    exact h.of_sources rfl fun _ => .inl rfl
  | resetFull _ hx _ =>
    intro x _ hp
    rw [hx] at hp
    cases hp
  | resetDelivery =>
    refine h.of_sources s.resetDelivery_lines fun x => .inr fun hp _ => ?_
    obtain hi | ⟨-, ha⟩ := s.resetDelivery_state x
    · exact SourceState.noConfusion (hi.symm.trans hp)
    · exact ha

theorem keeps_runs (h : s.PendingLevelAsserted) (ht : s.Runs t) : t.PendingLevelAsserted := by
  induction ht with
  | refl => exact h
  | tail _ hc ih => exact keeps ih hc

end State.PendingLevelAsserted

/-- Settles O60: a running part stays running through a chain of happenings, each of which keeps the law of PENDING
level-type sources; a part that is held keeps every source at reset, so that none is PENDING. -/
theorem heldAndAssertedLawsKept : Obligations.HeldAndAssertedLawsKept := by
  intro s t hh ha h
  cases step_outcome h with
  | runs hp hr => exact ⟨fun hn => absurd (hr.phase.trans hp) hn, ha.keeps_runs hr⟩
  | held k =>
    obtain ⟨h1, h2, h3, h4, h5⟩ := hh k.before
    refine ⟨fun _ => ⟨k.frame.trans h1, k.arrivals.trans h2, k.nextTick.trans h3, fun d => by rw [k.session, h4],
      fun x => (k.source x).trans (h5 x)⟩, fun x _ hx => ?_⟩
    rw [k.source, h5] at hx
    cases hx
  | restarted k =>
    refine ⟨fun hn => ?_, fun x _ hx => ?_⟩
    · obtain ⟨h1, h2, h3⟩ := k.held hn
      exact ⟨h1, h2, h3, fun d => by rw [k.session]; rfl, k.source⟩
    · rw [k.source] at hx
      cases hx

end Sys2Proof.Machine
end

section
/-! Step 5 of R176: the readers of the payloads refuse exactly the fields out of their ranges (O7). -/

namespace Sys2Proof.Machine

/-! ## Fields -/

theorem fieldBelow_eq_none {n : Nat} {b : Byte} : fieldBelow n b = none ↔ n ≤ b.toNat := by
  unfold fieldBelow
  split <;> simp only [reduceCtorEq, false_iff, true_iff] <;> omega

theorem routeField_eq_none {b : Byte} : routeField b = none ↔ 4 < b.toNat := by
  unfold routeField
  split
  · simp; omega
  · split <;> simp <;> omega

theorem completionField_eq_none {b : Byte} : completionField b = none ↔ 1 < b.toNat := by
  unfold completionField
  generalize b.toNat = n
  rcases n with _ | _ | n <;> simp

theorem admissionField_eq_none {b : Byte} : admissionField b = none ↔ 2 < b.toNat := by
  unfold admissionField
  generalize b.toNat = n
  rcases n with _ | _ | _ | n <;> simp

theorem senseField_eq_none {b : Byte} : senseField b = none ↔ 4 < b.toNat := by
  unfold senseField
  generalize b.toNat = n
  rcases n with _ | _ | _ | _ | _ | n <;> simp

theorem timerModeField_eq_none {b : Byte} : timerModeField b = none ↔ 2 < b.toNat := by
  unfold timerModeField
  generalize b.toNat = n
  rcases n with _ | _ | _ | n <;> simp

theorem timeBaseField_eq_none {b : Byte} : timeBaseField b = none ↔ 3 < b.toNat := by
  unfold timeBaseField
  generalize b.toNat = n
  rcases n with _ | _ | _ | _ | n <;> simp

theorem flagField_eq_none {b : Byte} : flagField b = none ↔ 1 < b.toNat := by
  unfold flagField
  generalize b.toNat = n
  rcases n with _ | _ | n <;> simp

theorem alertModeField_eq_none {b : Byte} : alertModeField b = none ↔ 1 < b.toNat := by
  unfold alertModeField
  generalize b.toNat = n
  rcases n with _ | _ | n <;> simp

theorem scopeField_eq_none {b : Byte} : scopeField b = none ↔ 1 < b.toNat := by
  unfold scopeField
  generalize b.toNat = n
  rcases n with _ | _ | n <;> simp

theorem sessionModeField_eq_none {b : Byte} : sessionModeField b = none ↔ 2 < b.toNat := by
  unfold sessionModeField
  generalize b.toNat = n
  rcases n with _ | _ | _ | n <;> simp

/-! ## Ranges -/

section
variable (b b0 b1 b2 b3 b4 b5 : Byte)

theorem Request.outOfRange_configSource : Request.configSource.outOfRange [b0, b1, b2, b3, b4] =
    (31 < b0.toNat || 15 < b1.toNat || 4 < b2.toNat || 4 < b3.toNat || 1 < b4.toNat ||
      (b2.toNat != 0 && b2.toNat == b3.toNat)) := rfl

theorem Request.outOfRange_setAdmission : Request.setAdmission.outOfRange [b0, b1] = (31 < b0.toNat || 2 < b1.toNat : Bool) :=
  rfl

theorem Request.outOfRange_configLine : Request.configLine.outOfRange [b0, b1, b2] =
    (23 < b0.toNat || 4 < b1.toNat || 7 < b2.toNat : Bool) := rfl

theorem Request.outOfRange_configTimer : Request.configTimer.outOfRange [b0, b1, b2, b3, b4] =
    (7 < b0.toNat || 2 < b1.toNat || (b2.toNat == 0 && b3.toNat == 0) || 23 < b4.toNat) := rfl

theorem Request.outOfRange_startTimer : Request.startTimer.outOfRange [b] = decide (7 < b.toNat) := rfl

theorem Request.outOfRange_setTimebase : Request.setTimebase.outOfRange [b] = decide (3 < b.toNat) := rfl

theorem Request.outOfRange_setAlert : Request.setAlert.outOfRange [b0, b1] = (1 < b0.toNat || 1 < b1.toNat : Bool) := rfl

theorem Request.outOfRange_reset : Request.reset.outOfRange [b] = decide (1 < b.toNat) := rfl

theorem Request.outOfRange_querySource : Request.querySource.outOfRange [b] = decide (31 < b.toNat) := rfl

theorem Request.outOfRange_querySession : Request.querySession.outOfRange [b] = (b.toNat == 0 || 4 < b.toNat) := rfl

theorem Request.outOfRange_readCapture : Request.readCapture.outOfRange [b] = decide (3 < b.toNat) := rfl

/-- OPEN and SET_SESSION carry the same parameters. -/
theorem Request.outOfRange_params {r : Request} (hr : r = .openSession ∨ r = .setSession) :
    r.outOfRange [b0, b1, b2, b3, b4, b5] =
      (2 < b0.toNat || b1.toNat == 0 || 4 < b1.toNat || 15 < b2.toNat || b3.toNat == 0 || 7 < b4.toNat ||
        (b0.toNat == 0 && b1.toNat != 1)) := by
  obtain rfl | rfl := hr
  · rfl
  · rfl
end

end Sys2Proof.Machine
end

section
/-! Step 5 of R176: a payload is refused with BAD_FIELD exactly when a field is out of its range (O7). -/

namespace Sys2Proof.Machine

/-! ## Payloads -/

theorem delivByte_of_routeField {b : Byte} {r : Option Deliv} (h : routeField b = some r) : delivByte r = b := by
  unfold routeField at h
  apply BitVec.eq_of_toNat_eq
  split at h
  · cases h
    simp [delivByte, *]
  · split at h
    · cases h
      simp only [delivByte, byteOf_toNat]
      omega
    · cases h

/-- A route that names a session is a byte that is not 0 (R13). -/
theorem routeField_isSome_iff {b : Byte} {r : Option Deliv} (h : routeField b = some r) : r.isSome = true ↔ b.toNat ≠ 0 := by
  unfold routeField at h
  split at h
  · cases h
    simpa
  · split at h
    · cases h
      simpa
    · cases h

theorem readConfigSource_eq_none (b0 b1 b2 b3 b4 : Byte) :
    readConfigSource [b0, b1, b2, b3, b4] = none ↔ Request.configSource.outOfRange [b0, b1, b2, b3, b4] = true := by
  have hout : Request.configSource.outOfRange [b0, b1, b2, b3, b4] = true ↔
      fieldBelow 32 b0 = none ∨ fieldBelow 16 b1 = none ∨ routeField b2 = none ∨ routeField b3 = none ∨
        completionField b4 = none ∨ (b2.toNat ≠ 0 ∧ b2 = b3) := by
    simp only [fieldBelow_eq_none, routeField_eq_none, completionField_eq_none, BitVec.toNat_eq]
    simp [Request.outOfRange_configSource, Nat.lt_iff_add_one_le, or_assoc]
  rw [hout]
  simp only [readConfigSource]
  split
  · rename_i x p pr fb c h0 h1 h2 h3 h4
    have heq : b2 = b3 ↔ pr = fb := by
      rw [← delivByte_of_routeField h2, ← delivByte_of_routeField h3]
      exact ⟨fun e => by simpa using congrArg routeField e, fun e => e ▸ rfl⟩
    have hne := routeField_isSome_iff h2
    simp [h0, h1, h2, h3, h4, heq, ← hne]
  · rename_i hn
    refine ⟨fun _ => ?_, fun _ => rfl⟩
    by_contra hc
    simp only [not_or, ← ne_eq, Option.ne_none_iff_exists'] at hc
    obtain ⟨⟨x, h0⟩, ⟨p, h1⟩, ⟨pr, h2⟩, ⟨fb, h3⟩, ⟨c, h4⟩, -⟩ := hc
    exact hn x p pr fb c h0 h1 h2 h3 h4

theorem readSetAdmission_eq_none (b0 b1 : Byte) :
    readSetAdmission [b0, b1] = none ↔ Request.setAdmission.outOfRange [b0, b1] = true := by
  have hout : Request.setAdmission.outOfRange [b0, b1] = true ↔ fieldBelow 32 b0 = none ∨ admissionField b1 = none := by
    simp only [fieldBelow_eq_none, admissionField_eq_none]
    simp [Request.outOfRange_setAdmission, Nat.lt_iff_add_one_le]
  rw [hout]
  simp only [readSetAdmission]
  cases fieldBelow 32 b0 with
  | none => simp
  | some x => cases admissionField b1 <;> simp

theorem readConfigLine_eq_none (b0 b1 b2 : Byte) :
    readConfigLine [b0, b1, b2] = none ↔ Request.configLine.outOfRange [b0, b1, b2] = true := by
  have hout : Request.configLine.outOfRange [b0, b1, b2] = true ↔
      fieldBelow 24 b0 = none ∨ senseField b1 = none ∨ fieldBelow 8 b2 = none := by
    simp only [fieldBelow_eq_none, senseField_eq_none]
    simp [Request.outOfRange_configLine, Nat.lt_iff_add_one_le, or_assoc]
  rw [hout]
  simp only [readConfigLine]
  cases fieldBelow 24 b0 with
  | none => simp
  | some n =>
    cases senseField b1 with
    | none => simp
    | some e => cases fieldBelow 8 b2 <;> simp

theorem twoBytes_eq_zero (low high : Byte) : twoBytes low high = 0 ↔ low.toNat = 0 ∧ high.toNat = 0 := by
  unfold twoBytes
  omega

theorem readConfigTimer_eq_none (b0 b1 b2 b3 b4 : Byte) :
    readConfigTimer [b0, b1, b2, b3, b4] = none ↔ Request.configTimer.outOfRange [b0, b1, b2, b3, b4] = true := by
  have hout : Request.configTimer.outOfRange [b0, b1, b2, b3, b4] = true ↔
      fieldBelow 8 b0 = none ∨ timerModeField b1 = none ∨ twoBytes b2 b3 = 0 ∨ fieldBelow 24 b4 = none := by
    simp only [fieldBelow_eq_none, timerModeField_eq_none, twoBytes_eq_zero]
    simp [Request.outOfRange_configTimer, Nat.lt_iff_add_one_le, or_assoc]
  rw [hout]
  simp only [readConfigTimer]
  cases fieldBelow 8 b0 with
  | none => simp
  | some k =>
    cases timerModeField b1 with
    | none => simp
    | some m => cases fieldBelow 24 b4 <;> simp

theorem readSetAlert_eq_none (b0 b1 : Byte) : readSetAlert [b0, b1] = none ↔ Request.setAlert.outOfRange [b0, b1] = true := by
  have hout : Request.setAlert.outOfRange [b0, b1] = true ↔ flagField b0 = none ∨ alertModeField b1 = none := by
    simp only [flagField_eq_none, alertModeField_eq_none]
    simp [Request.outOfRange_setAlert]
  rw [hout]
  simp only [readSetAlert]
  cases flagField b0 with
  | none => simp
  | some x => cases alertModeField b1 <;> simp

theorem readSession_eq_none (b : Byte) : readSession [b] = none ↔ Request.querySession.outOfRange [b] = true := by
  simp only [readSession, Request.outOfRange_querySession, Bool.or_eq_true, beq_iff_eq, decide_eq_true_eq]
  split_ifs <;> simp <;> omega

theorem readParams_eq_none (r : Request) (hr : r = .openSession ∨ r = .setSession) (b0 b1 b2 b3 b4 b5 : Byte) :
    readParams [b0, b1, b2, b3, b4, b5] = none ↔ r.outOfRange [b0, b1, b2, b3, b4, b5] = true := by
  have hmode : ∀ m, sessionModeField b0 = some m → (m = .nested ↔ b0.toNat = 0) := by
    unfold sessionModeField
    generalize b0.toNat = n
    rcases n with _ | _ | _ | n <;> simp
  have hout : r.outOfRange [b0, b1, b2, b3, b4, b5] = true ↔
      sessionModeField b0 = none ∨ fieldBelow 16 b2 = none ∨
        ¬(1 ≤ b1.toNat ∧ b1.toNat ≤ 4 ∧ 1 ≤ b3.toNat ∧ b4.toNat ≤ 7 ∧ (b0.toNat = 0 → b1.toNat = 1)) := by
    simp only [fieldBelow_eq_none, sessionModeField_eq_none]
    simp only [Request.outOfRange_params _ _ _ _ _ _ hr, Bool.or_eq_true, Bool.and_eq_true, decide_eq_true_eq, beq_iff_eq,
      bne_iff_ne]
    omega
  rw [hout]
  simp only [readParams]
  cases hm : sessionModeField b0 with
  | none => simp
  | some m =>
    cases fieldBelow 16 b2 with
    | none => simp
    | some th => simp [hmode m hm]

theorem readSource_eq_none (b : Byte) : readSource [b] = none ↔ Request.querySource.outOfRange [b] = true := by
  simp [readSource, fieldBelow_eq_none, Request.outOfRange_querySource, Nat.lt_iff_add_one_le]

/-! ## The owners -/

/-- An owner that reads its payload answers BAD_FIELD exactly when the reader refuses it. -/
theorem Answer.FieldChecked.of_read {α : Type} {a : Answer} {s : State} {bad : Bool} (read : Option α)
    (h : read = none ↔ bad = true) (hn : read = none → a = .refuse .badField s)
    (hs : ∀ v, read = some v → a.status ≠ .badField) : a.FieldChecked s bad := by
  refine ⟨fun hb => hn (h.mpr hb), fun hb => ?_⟩
  cases hr : read with
  | none => simp [h.mp hr] at hb
  | some v => exact hs v hr

/-- An owner with no field to check. -/
theorem Answer.FieldChecked.of_status {a : Answer} {s : State} {bad : Bool} (hb : bad = false) (hs : a.status ≠ .badField) :
    a.FieldChecked s bad := ⟨fun h => by simp [hb] at h, fun _ => hs⟩

theorem Answer.status_ite {c : Prop} [Decidable c] {a b : Answer} {st : Status} (ha : a.status ≠ st) (hb : b.status ≠ st) :
    (if c then a else b).status ≠ st := by
  split
  · exact ha
  · exact hb

/-- A delivery request on an allowed session acts on the session of its header (R175). -/
theorem delivOf_of_allowed {r : Request} {σ : SessId} (hr : r.sessions = .delivery) (h : r.allowedOn σ = true) :
    ∃ d, delivOf σ = some d := by
  have hσ : σ.val ≠ 0 := by simpa [Request.allowedOn, hr] using h
  exact ⟨_, dif_neg hσ⟩

/-- Step 5 of R176 for every owner: BAD_FIELD exactly for a field out of its range. -/
theorem Request.owner_fieldChecked (r : Request) (σ : SessId) (payload : List Byte) (s : State) (ha : r.allowedOn σ = true)
    (hl : payload.length = r.payloadLen) : (r.owner σ payload s).FieldChecked s (r.outOfRange payload) := by
  have hdel : r.sessions = .delivery → ∃ d, ∀ f, onDelivery f σ payload s = f d payload s := fun hr => by
    obtain ⟨d, hd⟩ := delivOf_of_allowed hr ha
    exact ⟨d, fun f => by simp [onDelivery, hd]⟩
  cases r
  case configSource =>
    match payload, hl with
    | [b0, b1, b2, b3, b4], _ =>
      refine .of_read _ (readConfigSource_eq_none b0 b1 b2 b3 b4) (fun e => ?_) fun v e => ?_
      all_goals simp only [Request.owner, ownConfigSource, e]
      exact Answer.status_ite nofun nofun
  case setAdmission =>
    match payload, hl with
    | [b0, b1], _ =>
      refine .of_read _ (readSetAdmission_eq_none b0 b1) (fun e => ?_) fun v e => ?_
      all_goals simp only [Request.owner, ownSetAdmission, e]
      exact nofun
  case configLine =>
    match payload, hl with
    | [b0, b1, b2], _ =>
      refine .of_read _ (readConfigLine_eq_none b0 b1 b2) (fun e => ?_) fun v e => ?_
      all_goals simp only [Request.owner, ownConfigLine, e]
      exact Answer.status_ite nofun nofun
  case configTimer =>
    match payload, hl with
    | [b0, b1, b2, b3, b4], _ =>
      refine .of_read _ (readConfigTimer_eq_none b0 b1 b2 b3 b4) (fun e => ?_) fun v e => ?_
      all_goals simp only [Request.owner, ownConfigTimer, e]
      exact Answer.status_ite nofun (Answer.status_ite nofun nofun)
  case startTimer | stopTimer | queryTimer =>
    match payload, hl with
    | [b], _ =>
      have h : readTimer [b] = none ↔ Request.startTimer.outOfRange [b] = true := by
        simp [readTimer, fieldBelow_eq_none, Request.outOfRange_startTimer, Nat.lt_iff_add_one_le]
      refine .of_read _ h (fun e => ?_) fun v e => ?_
      all_goals simp only [Request.owner, ownStartTimer, ownStopTimer, ownQueryTimer, e]
      exact nofun
  case setTimebase =>
    match payload, hl with
    | [b], _ =>
      have h : readTimeBase [b] = none ↔ Request.setTimebase.outOfRange [b] = true := by
        simp [readTimeBase, timeBaseField_eq_none, Request.outOfRange_setTimebase]
      refine .of_read _ h (fun e => ?_) fun v e => ?_
      all_goals simp only [Request.owner, ownSetTimebase, e]
      exact Answer.status_ite nofun nofun
  case setAlert =>
    match payload, hl with
    | [b0, b1], _ =>
      refine .of_read _ (readSetAlert_eq_none b0 b1) (fun e => ?_) fun v e => ?_
      all_goals simp only [Request.owner, ownSetAlert, e]
      exact nofun
  case reset =>
    match payload, hl with
    | [b], _ =>
      have h : readScope [b] = none ↔ Request.reset.outOfRange [b] = true := by
        simp [readScope, scopeField_eq_none, Request.outOfRange_reset]
      refine .of_read _ h (fun e => ?_) fun v e => ?_
      all_goals simp only [Request.owner, ownReset, e]
      exact nofun
  case querySource =>
    match payload, hl with
    | [b], _ =>
      refine .of_read _ (readSource_eq_none b) (fun e => ?_) fun v e => ?_
      all_goals simp only [Request.owner, ownQuerySource, e]
      exact nofun
  case querySession =>
    match payload, hl with
    | [b], _ =>
      refine .of_read _ (readSession_eq_none b) (fun e => ?_) fun v e => ?_
      all_goals simp only [Request.owner, ownQuerySession, e]
      exact nofun
  case queryLines | readTime => exact .of_status rfl nofun
  case snapshot =>
    refine .of_status rfl ?_
    simp only [Request.owner, ownSnapshot]
    split <;> exact nofun
  case readCapture =>
    match payload, hl with
    | [b], _ =>
      have h : readPage [b] = none ↔ Request.readCapture.outOfRange [b] = true := by
        simp [readPage, fieldBelow_eq_none, Request.outOfRange_readCapture, Nat.lt_iff_add_one_le]
      refine .of_read _ h (fun e => ?_) fun v e => ?_
      all_goals simp only [Request.owner, ownReadCapture, e]
      split
      · exact nofun
      · exact Answer.status_ite nofun nofun
  case discardCapture =>
    refine .of_status rfl ?_
    simp only [Request.owner, ownDiscardCapture]
    split
    · exact nofun
    · exact Answer.status_ite nofun nofun
  case openSession =>
    obtain ⟨d, hd⟩ := hdel rfl
    match payload, hl with
    | [b0, b1, b2, b3, b4, b5], _ =>
      refine .of_read _ (readParams_eq_none _ (.inl rfl) b0 b1 b2 b3 b4 b5) (fun e => ?_) fun v e => ?_
      all_goals simp only [Request.owner, ownOpen, hd, e]
      split <;> exact nofun
  case setSession =>
    obtain ⟨d, hd⟩ := hdel rfl
    match payload, hl with
    | [b0, b1, b2, b3, b4, b5], _ =>
      refine .of_read _ (readParams_eq_none _ (.inr rfl) b0 b1 b2 b3 b4 b5) (fun e => ?_) fun v e => ?_
      all_goals simp only [Request.owner, ownSetSession, hd, e]
      split
      · exact nofun
      all_goals exact Answer.status_ite nofun nofun
  case done =>
    obtain ⟨d, hd⟩ := hdel rfl
    match payload, hl with
    | [b], _ =>
      refine .of_read _ (readSource_eq_none b) (fun e => ?_) fun v e => ?_
      all_goals simp only [Request.owner, ownDone, hd, e]
      split
      · exact nofun
      all_goals exact Answer.status_ite nofun nofun
  case close | resume =>
    obtain ⟨d, hd⟩ := hdel rfl
    refine .of_status rfl ?_
    simp only [Request.owner, ownClose, ownResume, hd]
    split <;> exact nofun
  case doneTop =>
    obtain ⟨d, hd⟩ := hdel rfl
    refine .of_status rfl ?_
    simp only [Request.owner, ownDoneTop, hd]
    split
    · exact nofun
    all_goals split <;> exact nofun
  case accept | returnOffer =>
    obtain ⟨d, hd⟩ := hdel rfl
    match payload, hl with
    | [b], _ =>
      refine .of_status rfl ?_
      simp only [Request.owner, ownAccept, ownReturn, hd, readDN]
      split
      · exact nofun
      · exact nofun
      · split <;> exact nofun

/-- Settles O7, by the owner of each request: its reader refuses a payload exactly when a field is out of its range, and no
answer to a payload that is read is BAD_FIELD. -/
theorem fieldChecks : Obligations.FieldChecks := by
  intro r σ tag payload slot s h ha hl
  obtain ⟨hbad, hgood⟩ := r.owner_fieldChecked σ payload s ha hl
  have hexec := r.exec_taken σ tag payload h ha hl
  refine ⟨fun hb => ?_, fun hb => ⟨_, _, _, _, hgood hb, hexec⟩⟩
  rw [hexec, hbad hb]
  rfl

end Sys2Proof.Machine
end

section
/-! Requests of the management session taken and refused (O14, O16, O17), and QUERY_SOURCE (O24). -/

namespace Sys2Proof.Machine

/-- A request that is executed leaves what its owner's answer says (R174, R176, R179). -/
theorem Request.exec_of_owner {s : State} {slot : SlotId} {r : Request} {σ : SessId} {tag : Byte} {payload : List Byte}
    {a : Answer} (h : s.canTake σ r.code tag slot) (ha : r.allowedOn σ = true) (hl : payload.length = r.payloadLen)
    (ho : r.owner σ payload s = a) :
    exec (r.command (byteOf σ.val) tag payload) s =
      .next (a.next.answered slot σ r.code tag a.status a.contents a.startsReset) :=
  ho ▸ r.exec_taken σ tag payload h ha hl

/-! ## CONFIG_SOURCE (R13) -/

theorem readConfigSource_codes (x : SourceId) (p : Priority) {primary fallback : Option Deliv} (c : Completion)
    (h : primary = none ∨ primary ≠ fallback) :
    readConfigSource [byteOf x.val, byteOf p.val, delivByte primary, delivByte fallback, c.code] =
      some { source := x, priority := p, primary := primary, fallback := fallback, completion := c } := by
  have hn : ¬(primary.isSome = true ∧ primary = fallback) := fun ⟨hs, he⟩ => by
    obtain rfl | hne := h
    · simp at hs
    · exact hne he
  simp [readConfigSource, hn]

theorem ownConfigSource_codes (σ : SessId) (x : SourceId) (p : Priority) {primary fallback : Option Deliv} (c : Completion)
    (s : State) (h : primary = none ∨ primary ≠ fallback) :
    ownConfigSource σ [byteOf x.val, byteOf p.val, delivByte primary, delivByte fallback, c.code] s =
      if (s.source x).state = .idle ∨ (s.source x).state = .pending then
        .ok [byteOf x.val]
          ((s.setSource x { s.source x with
            priority := p, primary := primary, fallback := fallback, completion := c }).judged s)
      else .refuse .busySource s := by
  simp only [ownConfigSource, readConfigSource_codes x p c h]

/-- Settles O16: the payload reads back the four fields, and the owner writes them. -/
theorem configSourceTakes : Obligations.ConfigSourceTakes := by
  intro x p primary fallback c tag slot s ht hr hs
  exact Request.exec_of_owner (r := .configSource) (σ := 0) ht rfl rfl
    ((ownConfigSource_codes 0 x p c s hr).trans (if_pos hs))

/-! ## Requests refused for what is at work (R13, R84, R114, R123, R137) -/

theorem readConfigLine_codes (n : LineId) (e : Sense) (f : Fin 8) :
    readConfigLine [byteOf n.val, e.code, byteOf f.val] = some { line := n, sense := e, filter := f.val } := by
  simp [readConfigLine]

theorem readConfigTimer_codes (k : TimerId) (m : TimerMode) (w : LineId) {period : Nat} (h1 : 1 ≤ period) (h2 : period ≤ 65535) :
    readConfigTimer ([byteOf k.val, m.code] ++ word16 period ++ [byteOf w.val]) =
      some { timer := k, mode := m, period := period, watched := w } := by
  have hp : period ≠ 0 := by omega
  simp [word16, readConfigTimer, twoBytes_word16 period h2, hp]

/-- A session that holds an entry locks its mode and window (R84). -/
theorem Session.shapeLocked_eq_true {v : Session} {q p : Params} (h : p.mode ≠ q.mode ∨ p.window ≠ q.window)
    (hl : v.offers ≠ [] ∨ v.inService ≠ []) : v.shapeLocked q p = true := by
  have hload : v.load ≠ 0 := by
    simp only [Session.load, ne_eq, Nat.add_eq_zero_iff, List.length_eq_zero_iff, not_and_or]
    exact hl
  simp only [Session.shapeLocked, Bool.and_eq_true, Bool.or_eq_true, bne_iff_ne]
  exact ⟨h.imp Ne.symm Ne.symm, hload⟩

/-- Settles O14: each owner's state check fails under its condition, and a refusal changes nothing. -/
theorem busyRefusals : Obligations.BusyRefusals := by
  intro tag slot s
  refine ⟨fun x p primary fallback c ht hr hs => ?_, fun n e f ht hs => ?_, fun k m period w ht h1 h2 hs hd => ?_,
    fun b k ht hs => ?_, fun d p q ht hp hs hd hl => ?_⟩
  · have hn : ¬((s.source x).state = .idle ∨ (s.source x).state = .pending) := by
      obtain hs | hs := hs <;> simp [hs]
    exact Request.exec_of_owner (r := .configSource) (σ := 0) ht rfl rfl
      ((ownConfigSource_codes 0 x p c s hr).trans (if_neg hn))
  · refine Request.exec_of_owner (r := .configLine) (σ := 0) (a := .refuse .busySource s) ht rfl rfl ?_
    simp [Request.owner, ownConfigLine, readConfigLine_codes, hs]
  · refine Request.exec_of_owner (r := .configTimer) (σ := 0) (a := .refuse .busyTimer s) ht rfl rfl ?_
    have hn : ¬((s.timer k).mode = m ∧ (s.timer k).watched = w) := fun ⟨a, b⟩ => hd.elim (· a) (· b)
    simp only [Request.owner, ownConfigTimer, readConfigTimer_codes k m w h1 h2, if_neg hs, if_neg hn]
  · refine Request.exec_of_owner (r := .setTimebase) (σ := 0) (a := .refuse .busyTimer s) ht rfl rfl ?_
    have hn : ¬ s.allStopped = true := fun e => by
      simp only [State.allStopped, List.all_eq_true, beq_iff_eq] at e
      exact hs (e k (List.mem_finRange k))
    simp [Request.owner, ownSetTimebase, readTimeBase, hn]
  · refine Request.exec_of_owner (r := .setSession) (σ := sessionNumber d) (a := .refuse .busySession s) ht
      (Request.allowedOn_sessionNumber rfl d) rfl ?_
    simp only [Request.owner, ownSetSession, onDelivery, delivOf_sessionNumber, readParams_payload p hp]
    obtain hs | hs := hs <;> simp only [hs, Session.shapeLocked_eq_true hd hl, if_true]

/-! ## SET_ADMIT (R10, R11, R12) -/

theorem ownSetAdmission_codes (σ : SessId) (x : SourceId) (a : Admission) (s : State) :
    ownSetAdmission σ [byteOf x.val, a.code] s =
      .ok [byteOf x.val, (s.source x).admission.code, ((s.changeAdmission x a).source x).state.code]
        ((s.changeAdmission x a).judged s) := by
  simp only [ownSetAdmission, readSetAdmission, fieldBelow_source, admissionField_code]
  rfl

/-- A judgement changes the alert output alone (R97). -/
@[simp] theorem State.judged_source (s b : State) (x : SourceId) : (s.judged b).source x = s.source x := rfl

/-- The record after SET_ADMIT to OFF (R11). -/
theorem Source.admissionOff_eq (r : Source) :
    r.admissionOff = { r with
      admission := .off, state := if r.state = .pending then .idle else r.state, count := 0, saturated := false
      firstTime := none, lastTime := none, holdUntil := none } := by
  unfold Source.admissionOff Source.emptied
  dsimp only
  split <;> simp [*]

@[simp] theorem State.restartGaps_source (s : State) (x y : SourceId) : (s.restartGaps x).source y = s.source y := rfl

/-- Settles O17: the four cases of SET_ADMIT's effect by the old and the new value, each judged once. -/
theorem setAdmitTakes : Obligations.SetAdmitTakes := by
  intro x a tag slot s ht r leaves
  have hl : ∀ (t : State) (st : SourceState), s.changeAdmission x a = t → (t.source x).state = st → leaves st t := by
    rintro t st rfl rfl
    exact Request.exec_of_owner (r := .setAdmission) (σ := 0) ht rfl rfl (ownSetAdmission_codes 0 x a s)
  obtain ⟨ho, ha, e⟩ | ⟨ho, ha, e⟩ | ⟨ha, ho, e⟩ | ⟨ho, ha, hi, has, e⟩ := s.changeAdmission_cases x a
  · exact ⟨fun _ _ => hl _ _ e rfl, fun h _ => absurd ho h, fun h _ => absurd ho h, fun _ h => absurd ha h,
      fun _ h => absurd ha h⟩
  · refine ⟨fun h _ => absurd h ho, fun _ _ => ?_, fun _ h => absurd ha h, fun _ h => absurd ha h, fun _ h => absurd ha h⟩
    rw [Source.admissionOff_eq] at e
    exact hl _ _ e (by simp [r])
  · have hset : leaves r.state (s.setSource x { r with admission := a }) := hl _ _ e (by simp [r])
    refine ⟨fun _ h => absurd h ha, fun _ h => absurd h ha, fun _ _ => hset, fun _ _ _ => hset, fun h _ hi has => ?_⟩
    exact absurd ⟨hi, has⟩ (ho.resolve_left fun hn => hn h)
  · refine ⟨fun _ h => absurd h ha, fun _ h => absurd h ha, fun h _ => absurd ho h, fun _ _ h => ?_,
      fun _ _ _ _ => hl _ _ e (by simp)⟩
    obtain h | h := h
    · exact absurd hi h
    · exact Bool.noConfusion (has.symm.trans h)

/-! ## QUERY_SOURCE (R21) -/

/-- A time still to run is 1 millisecond at least when it is rounded up (R21). -/
theorem one_le_millis {a b : Nat} (h : a < b) : 1 ≤ (b - a + 999) / 1000 := by omega

/-- Settles O24: the contents are the 22 bytes of the record, with the hold byte of R21. -/
theorem querySourceAnswers : Obligations.QuerySourceAnswers := by
  intro x σ tag slot s ht r
  refine ⟨holdByte r.holdUntil s.clock, flagByte (s.lineLevel x), ?_, fun h => by rw [h]; rfl, fun t h hlt => ?_, ?_, ?_⟩
  · have hk : (if x.val < 24 then 0#8 else 1#8) = flagByte (lineOf x).isNone := by
      unfold lineOf
      split <;> rfl
    rw [hk]
    refine Request.exec_of_owner (r := .querySource) (a := .ok (sourceContents s x) s) ht rfl rfl ?_
    simp only [Request.owner, ownQuerySource, readSource, fieldBelow_source]
  · have hc := one_le_millis hlt
    rw [h]
    simp only [holdByte, Config.microsPerMilli]
    rw [max_eq_right hc]
  · rintro n rfl
    simp [State.lineLevel]
  · intro h
    simp [State.lineLevel, lineOf_eq_none.mpr h]
    rfl

end Sys2Proof.Machine
end

section
/-! Requests of the delivery sessions taken: ACCEPT (O34), RETURN (O35), DONE and DONE_TOP (O36), CLOSE (O32). -/

namespace Sys2Proof.Machine

/-! ## Entries found and taken out by a key that no two share -/

/-- Where no two entries share a key, the search for an entry's key finds that entry. -/
theorem find?_key_of_nodup {α β : Type} [DecidableEq β] {f : α → β} {l : List α} {a : α} (h : (l.map f).Nodup) (ha : a ∈ l) :
    l.find? (fun q => f q == f a) = some a := by
  induction l with
  | nil => cases ha
  | cons q l ih =>
    rw [List.map_cons, List.nodup_cons] at h
    obtain rfl | ha := List.mem_cons.mp ha
    · simp
    · have hne : f q ≠ f a := fun e => h.1 (e ▸ List.mem_map_of_mem ha)
      simp [hne, ih h.2 ha]

/-- Where no two entries share a key, taking out the first of a key takes out all of it. -/
theorem eraseP_key_of_nodup {α β : Type} [DecidableEq β] {f : α → β} {l : List α} (h : (l.map f).Nodup) (b : β) :
    l.eraseP (fun q => f q == b) = l.filter fun q => f q != b := by
  induction l with
  | nil => rfl
  | cons q l ih =>
    rw [List.map_cons, List.nodup_cons] at h
    by_cases hq : f q = b
    · have hall : l.filter (fun q => f q != b) = l := by
        rw [List.filter_eq_self]
        intro a ha
        simp only [bne_iff_ne]
        exact fun e => h.1 (hq.trans e.symm ▸ List.mem_map_of_mem ha)
      simp [hq, hall]
    · simp [hq, ih h.2]

/-- The later of two writes of one source's record stands. -/
theorem State.setSource_setSource (s : State) (x : SourceId) (r r' : Source) :
    (s.setSource x r).setSource x r' = s.setSource x r' := by
  simp [State.setSource, State.setSources]

theorem Session.withoutOffer_eq {v : Session} (h : (v.offers.map Offer.dn).Nodup) (dn : Byte) :
    v.withoutOffer dn = { v with offers := v.offers.filter fun q => q.dn != dn } := by
  simp only [Session.withoutOffer, eraseP_key_of_nodup h]

/-! ## ACCEPT (R16, R57, R58) -/

/-- ACCEPT's answer on an ACTIVE session that holds the offer. -/
theorem ownAccept_of_mem {s t : State} {d : Deliv} {p : Params} {o : Offer} {st : SourceState}
    (hs : (s.session d).status = .active p) (ho : o ∈ (s.session d).offers) (hn : ((s.session d).offers.map Offer.dn).Nodup)
    (ht : s.acceptOffer d o = t) (hst : (t.source o.source).state = st) :
    ownAccept (sessionNumber d) [o.dn] s = .ok ([byteOf o.source.val, st.code] ++ word16 o.count) (t.judged s) := by
  subst ht hst
  simp only [ownAccept, onDelivery, delivOf_sessionNumber, readDN, hs, find?_key_of_nodup hn ho]
  rfl

/-- Settles O34: under MANUAL the entry moves to the in-service list, under AUTO the source is completed. -/
theorem acceptTakes : Obligations.AcceptTakes := by
  intro d p o tag slot s ht hs ho hn v r after
  have hall := Request.allowedOn_sessionNumber (r := .accept) rfl d
  refine ⟨fun hc => ?_, fun hc => ?_⟩
  all_goals have hc' : (s.source o.source).completion = _ := hc
  · have hacc : s.acceptOffer d o =
        (s.setSource o.source { r with state := .inService, holder := some d }).setSession d { v with
          offers := v.offers.filter fun q => q.dn != o.dn
          inService := v.inService ++ [{ source := o.source, priority := o.priority, dn := o.dn }] } := by
      simp only [State.acceptOffer, Session.withoutOffer_eq hn]
      split
      · rfl
      · rename_i hauto
        cases hc'.symm.trans hauto
    exact Request.exec_of_owner (r := .accept) ht hall rfl
      (ownAccept_of_mem hs ho hn hacc (st := .inService) (by simp))
  · have hacc : s.acceptOffer d o =
        (s.setSource o.source after).setSession d { v with offers := v.offers.filter fun q => q.dn != o.dn } := by
      simp only [State.acceptOffer, hc', Session.withoutOffer_eq hn]
      rfl
    exact Request.exec_of_owner (r := .accept) ht hall rfl (ownAccept_of_mem hs ho hn hacc (st := after.state) (by simp))

/-! ## RETURN (R17, R19, R60) -/

/-- RETURN's answer on an ACTIVE session that holds the offer. -/
theorem ownReturn_of_mem {s t : State} {d : Deliv} {p : Params} {o : Offer} {st : SourceState}
    (hs : (s.session d).status = .active p) (ho : o ∈ (s.session d).offers) (hn : ((s.session d).offers.map Offer.dn).Nodup)
    (ht : s.giveBack d o p.holdTime = t) (hst : (t.source o.source).state = st) :
    ownReturn (sessionNumber d) [o.dn] s = .ok [byteOf o.source.val, st.code] (t.judged s) := by
  subst ht hst
  simp only [ownReturn, onDelivery, delivOf_sessionNumber, readDN, hs, find?_key_of_nodup hn ho]
  rfl

/-- The hold of a RETURN on the record that the merge has written (R19). -/
theorem State.holdReturned_setSource (s : State) (x : SourceId) (r : Source) (n : Nat) :
    (s.setSource x r).holdReturned x n =
      s.setSource x
        (if r.admission = .off then { r with holdUntil := none }
          else if n = 0 then r
          else { r with holdUntil := some (s.clock + Config.microsPerMilli * n) }) := by
  unfold State.holdReturned
  simp only [State.source_setSource, if_true, State.setSource_setSource]
  split
  · rfl
  · split <;> rfl

/-- Settles O35: the merge and the hold write the one source, and its offer leaves the list. -/
theorem returnTakes : Obligations.ReturnTakes := by
  intro d p o tag slot s ht hs ho hn v merged held
  have hgive : s.giveBack d o p.holdTime =
      (s.setSource o.source held).setSession d { v with offers := v.offers.filter fun q => q.dn != o.dn } := by
    have h := (s.setSession d { v with offers := v.offers.filter fun q => q.dn != o.dn }).holdReturned_setSource
      o.source merged p.holdTime
    simp only [State.giveBack, Session.withoutOffer_eq hn]
    exact h
  have hstate : held.state = merged.state := by
    simp only [held]
    split
    · rfl
    · split <;> rfl
  exact Request.exec_of_owner (r := .returnOffer) ht (Request.allowedOn_sessionNumber rfl d) rfl
    (ownReturn_of_mem hs ho hn hgive (by simp [hstate]))

/-! ## DONE and DONE_TOP (R18, R61, R62) -/

/-- DONE's answer for a source in service at the session. -/
theorem ownDone_of_inService {s t : State} {d : Deliv} {x : SourceId} {st : SourceState}
    (hs : (s.session d).status ≠ .closed) (hx : (s.source x).state = .inService) (hd : (s.source x).holder = some d)
    (ht : s.finish d x = t) (hst : (t.source x).state = st) :
    ownDone (sessionNumber d) [byteOf x.val] s = .ok [byteOf x.val, st.code] (t.judged s) := by
  subst ht hst
  simp only [ownDone, onDelivery, delivOf_sessionNumber, readSource, fieldBelow_source]
  split
  · contradiction
  all_goals exact if_pos ⟨hx, hd⟩

/-- DONE_TOP's answer for the newest entry. -/
theorem ownDoneTop_of_top {s t : State} {d : Deliv} {e : Entry} {st : SourceState}
    (hs : (s.session d).status ≠ .closed) (he : (s.session d).inService.getLast? = some e)
    (ht : s.finishTop d e.source = t) (hst : (t.source e.source).state = st) :
    ownDoneTop (sessionNumber d) [] s = .ok [byteOf e.source.val, st.code] (t.judged s) := by
  subst ht hst
  simp only [ownDoneTop, onDelivery, delivOf_sessionNumber, he]
  split
  · contradiction
  all_goals rfl

/-- Settles O36: the entry of the source, or the newest, leaves the list, and the source takes the post-completion rule. -/
theorem doneTakes : Obligations.DoneTakes := by
  intro d x tag slot s hs v after
  refine ⟨fun ht hx hd hn => ?_, fun below e ht hb he => ?_⟩
  · have hfin : s.finish d x =
        (s.setSource x after).setSession d { v with inService := v.inService.filter fun e => e.source != x } := by
      simp only [State.finish, eraseP_key_of_nodup (f := Entry.source) (l := (s.session d).inService) hn]
      rfl
    exact Request.exec_of_owner (r := .done) ht (Request.allowedOn_sessionNumber rfl d) rfl
      (ownDone_of_inService hs hx hd hfin (st := after.state) (by simp))
  · subst he
    have hlast : (s.session d).inService.getLast? = some e := by simp [show (s.session d).inService = _ from hb]
    have hfin : s.finishTop d e.source = (s.setSource e.source after).setSession d { v with inService := below } := by
      simp only [State.finishTop, show (s.session d).inService = _ from hb, List.dropLast_concat]
      rfl
    exact Request.exec_of_owner (r := .doneTop) ht (Request.allowedOn_sessionNumber rfl d) rfl
      (ownDoneTop_of_top hs hlast hfin (st := after.state) (by simp))

end Sys2Proof.Machine
end

section
/-! CLOSE (O32) and ACK_DEADLINE_EXPIRY (O44). -/

namespace Sys2Proof.Machine

/-! ## CLOSE (R64, R80, R81, R150) -/

/-- CLOSE's answer on a session that is not CLOSED. -/
theorem ownClose_of_open {s : State} {d : Deliv} (hs : (s.session d).status ≠ .closed) :
    ownClose (sessionNumber d) [] s = .ok (closeContents s d) ((s.closeSession d).judged s) := by
  simp only [ownClose, onDelivery, delivOf_sessionNumber]
  split
  · contradiction
  all_goals rfl

/-- The reply's list of handled sources, over the entries that name them (R81). -/
theorem handledContents_map {α : Type} (s : State) {src : Vector Source 32} (f : α → SourceId) (l : List α)
    (h : ∀ a ∈ l, s.source (f a) = src[f a]) :
    handledContents s (l.map f) = l.flatMap fun a => [byteOf (f a).val, src[f a].state.code] := by
  rw [handledContents, List.flatMap_map]
  exact List.flatMap_congr fun a ha => by rw [h a ha]

/-- Settles O32: the sources of the lists come home each once, and the reply lists them with the state they then have. -/
theorem closeTakes : Obligations.CloseTakes := by
  intro d tag slot s ht hs hm v
  have hv : v.Matches d s.source := hm d
  obtain ⟨w1, w2, w3⟩ := s.withdrawn_source hv
  obtain ⟨m1, -⟩ := s.mergeAll_source v.offers hv.1
  obtain ⟨after, hclose, hafter⟩ := s.closeSession_only d
  have hsrc : ∀ x : SourceId, after[x] = ((s.mergeAll v.offers).completeAll v.inService).source x := fun x => by
    rw [hafter]
    rfl
  refine ⟨after, fun o ho => (hsrc _).trans (w1 o ho), fun e he => (hsrc _).trans (w2 e he),
    fun x ho hi => (hsrc x).trans (w3 x ho hi), ?_⟩
  have hoff : ∀ o ∈ v.offers, (s.mergeAll v.offers).source o.source = after[o.source] := fun o ho => by
    rw [m1 o ho, hsrc, w1 o ho]
  have hcontents : closeContents s d =
      [byteOf v.offers.length] ++ v.offers.flatMap (fun o => [byteOf o.source.val, after[o.source].state.code]) ++
        [byteOf v.inService.length] ++ v.inService.flatMap (fun e => [byteOf e.source.val, after[e.source].state.code]) ++
        [byteOf v.stall.count, byteOf v.stall.withdrawn.length] ++ v.stall.withdrawn.map fun x => byteOf x.val := by
    have h1 := handledContents_map _ Offer.source v.offers hoff
    have h2 := handledContents_map ((s.mergeAll v.offers).completeAll v.inService) Entry.source v.inService
      fun e _ => (hsrc e.source).symm
    simp only [closeContents, List.length_map]
    rw [h1, h2]
  have hown := ownClose_of_open hs
  rw [hclose, hcontents] at hown
  exact Request.exec_of_owner (r := .close) ht (Request.allowedOn_sessionNumber rfl d) rfl hown

/-! ## ACK_DEADLINE_EXPIRY (R51, R53, R54) -/

/-- Where the DNs differ, a change of the offer named by a DN is a change of each offer of that DN. -/
theorem updateFirst_dn_eq_map {l : List Offer} (h : (l.map Offer.dn).Nodup) (dn : Byte) (f : Offer → Offer) :
    updateFirst (fun q => q.dn == dn) f l = l.map fun q => if q.dn = dn then f q else q := by
  induction l with
  | nil => rfl
  | cons q l ih =>
    rw [List.map_cons, List.nodup_cons] at h
    by_cases hq : q.dn = dn
    · have hall : (l.map fun q => if q.dn = dn then f q else q) = l := by
        conv_rhs => rw [← List.map_id l]
        refine List.map_congr_left fun a ha => if_neg fun e => h.1 ?_
        exact hq.trans e.symm ▸ List.mem_map_of_mem ha
      simp [updateFirst, hq, hall]
    · simp [updateFirst, hq, ih h.2]

theorem saturatingSucc_eq (limit n : Nat) : saturatingSucc limit n = min limit (n + 1) := by
  unfold saturatingSucc
  split <;> omega

/-- Settles O44: the deadline of the AWAITING offer is reached, and its send number decides between the resend owed and the
stall. -/
theorem ackDeadlineExpires : Obligations.AckDeadlineExpires := by
  intro d p o t s hp hs ho hd hn v
  have hrun : s.isRunning = true := State.isRunning_iff.mpr hp
  have haw : s.awaiting d o.dn = some (o, t) := by
    simp only [State.awaiting, find?_key_of_nodup hn ho, hd, Option.map_some]
  have hexec : exec (.ackDeadlineExpiry d o.dn) s =
      if o.sendNumber ≤ p.retryLimit then
        .next ((s.reach t).setSession d { v with
          offers := updateFirst (fun q => q.dn == o.dn) Offer.owed v.offers })
      else .next (((s.reach t).stallSession d p o.dn).judged (s.reach t)) := by
    simp only [exec, execAckDeadlineExpiry, hrun, hs, haw]
    rfl
  refine ⟨fun hle => ?_, fun hlt hnd => ?_⟩
  · rw [hexec, if_pos hle, updateFirst_dn_eq_map hn]
    rfl
  · obtain ⟨m1, m2⟩ := (s.reach t).mergeAll_source v.offers hnd
    obtain ⟨after, hall⟩ := (s.reach t).mergeAll_only v.offers
    have hsrc : ∀ x : SourceId, after[x] = ((s.reach t).mergeAll v.offers).source x := fun x => by
      rw [hall]
      rfl
    refine ⟨after, fun q hq => (hsrc _).trans (m1 q hq), fun x hx => (hsrc x).trans (m2 x hx), ?_⟩
    have hstall : (s.reach t).stallSession d p o.dn =
        (((s.reach t).setSources after).setSession d { v with
          status := .stalled p, offers := []
          stall := { exhaustingDN := some o.dn, withdrawn := v.offers.map Offer.source
                     count := min 255 (v.stall.count + 1) } }).setStallOwed d true := by
      simp only [State.stallSession, State.session_reach]
      rw [hall, ← saturatingSucc_eq]
      rfl
    rw [hexec, if_neg (by omega), hstall]
    rfl

end Sys2Proof.Machine
end

section
/-! The rules the commands share: eligibility (O51), coming home (O54), the judgement of the alert output (O55); the ends of
holds and gaps (O45) and the reports of the lines (O48). -/

namespace Sys2Proof.Machine

/-! ## Eligibility (R20, R25, R29 to R34) -/

/-- The target of a source is the primary session if it is ACTIVE, and otherwise an ACTIVE fallback (R25). -/
theorem State.target_eq_some (s : State) (r : Source) (d : Deliv) :
    s.target r = some d ↔
      (r.primary = some d ∧ (s.session d).isActive = true) ∨
        (r.fallback = some d ∧ (s.session d).isActive = true ∧ ∀ e, r.primary = some e → (s.session e).isActive = false) := by
  have hprimary : r.primary.filter (fun e => (s.session e).isActive) = some d ↔
      r.primary = some d ∧ (s.session d).isActive = true := Option.filter_eq_some_iff
  have hfallback : r.fallback.filter (fun e => (s.session e).isActive) = some d ↔
      r.fallback = some d ∧ (s.session d).isActive = true := Option.filter_eq_some_iff
  have hnone : r.primary.filter (fun e => (s.session e).isActive) = none ↔
      ∀ e, r.primary = some e → (s.session e).isActive = false := by
    simp [Option.filter_eq_none_iff]
  have htarget : s.target r = (r.primary.filter fun e => (s.session e).isActive).or
      (r.fallback.filter fun e => (s.session e).isActive) := Option.orElse_eq_or ..
  rw [htarget, Option.or_eq_some_iff, hprimary, hfallback, hnone, and_comm (b := _ ∧ _), and_assoc]

/-- Settles O51: the conditions are those of `eligible`, field by field, and a source has one target. -/
theorem eligibilityRule : Obligations.EligibilityRule := by
  intro d x s r active target
  have hact : ∀ e, active e ↔ (s.session e).isActive = true := fun e => Session.isActive_iff.symm
  have htarget : target ↔ s.target r = some d := by
    simp only [target, hact, Bool.not_eq_true, s.target_eq_some r d]
  have helig : ∀ e, s.eligible e x = true ↔
      r.state = .pending ∧ r.admission = .on ∧ r.holdUntil = none ∧ s.target r = some e ∧
        (s.session e).takes r.priority = true := fun e => by
    simp [State.eligible, Source.isHeld, r, and_assoc]
  refine ⟨?_, fun h e he => ?_⟩
  · rw [helig, htarget, Session.takes_iff]
  · obtain ⟨-, -, -, ht, -⟩ := (helig d).mp h
    rw [← Bool.not_eq_true, helig]
    rintro ⟨-, -, -, ht', -⟩
    exact he (Option.some.inj (ht'.symm.trans ht))

/-! ## Coming home (R17, R18) -/

/-- Settles O54: the cases of the merge and of the post-completion rule, the first that applies. -/
theorem comingHomeRules : Obligations.ComingHomeRules := by
  intro r o levelType asserted now idle
  refine ⟨fun ha => ?_, fun ha hl => ?_, fun ha hl has => ?_, fun ha hl has => ?_⟩
  · simp only [Source.merged, Source.completed, if_pos ha]
    exact ⟨rfl, rfl⟩
  · subst hl
    refine ⟨?_, fun hc => ?_, fun hc => ?_⟩
    · simp only [Source.merged, if_neg ha]
      rfl
    · simp [Source.completed, ha, hc]
    · simp [Source.completed, ha, hc]
      rfl
  · subst hl has
    simp only [Source.merged, Source.completed, if_neg ha]
    exact ⟨rfl, rfl⟩
  · subst hl has
    simp only [Source.merged, Source.completed, if_neg ha]
    exact ⟨rfl, rfl⟩

/-! ## The alert output (R96, R97, R100 to R102) -/

/-- A source contributes with priority 15 and admission ON, PENDING without a hold or OFFERED (R96). -/
theorem Source.contributes_iff (r : Source) :
    r.contributes = true ↔
      r.priority = 15 ∧ r.admission = .on ∧ ((r.state = .pending ∧ r.holdUntil = none) ∨ r.state = .offered) := by
  simp [Source.contributes, Source.isHeld, and_assoc]

theorem urgent_iff (src : Vector Source 32) : urgent src = true ↔ ∃ x : SourceId, src[x].contributes = true := by
  simp [urgent]

theorem joinsPending_iff (before after : Vector Source 32) :
    joinsPending before after = true ↔
      ∃ x : SourceId, ¬ before[x].contributes = true ∧ after[x].contributes = true ∧ after[x].state = .pending := by
  simp [joinsPending, and_assoc]

/-- Settles O55: the branches of the judgement, with the condition and the joining of R96 and R97. -/
theorem alertFollowsCondition : Obligations.AlertFollowsCondition := by
  intro a clock before after contributes holds joins b
  have hc : ∀ r : Source, contributes r ↔ r.contributes = true := fun r => r.contributes_iff.symm
  have hholds : holds ↔ urgent after = true := by simp only [holds, hc, urgent_iff]
  have hjoins : joins ↔ joinsPending before after = true := by simp only [joins, hc, joinsPending_iff]
  obtain ⟨he, hm⟩ := a.judge_settings clock before after
  rw [hholds, hjoins]
  refine ⟨he, hm, fun h1 => ?_, fun h1 h2 => ?_, fun h1 h2 h3 => ?_, fun h1 h2 h3 h4 => ?_, fun h1 h2 h3 h4 => ?_⟩
  · simp [b, Alert.judge, h1]
  · simp [b, Alert.judge, h1, Option.isSome_iff_ne_none.mpr h2]
  · simp [b, Alert.judge, h1, h2, h3]
  · simp [b, Alert.judge, h1, h2, h3, h4, Config.renewalGap]
  · have hn : (a.mode == .renew && a.pin && joinsPending before after) = false := by
      simpa [← Bool.not_eq_true, and_assoc] using h4
    simp only [b, Alert.judge, h1, h2, h3, hn]
    exact ⟨rfl, rfl⟩

/-! ## Holds and gaps end (R20, R102) -/

/-- Settles O45: each expiry acts on the running part at its instant, and only where it has ground. -/
theorem holdsAndGapsEnd : Obligations.HoldsAndGapsEnd := by
  intro s hp
  have hrun : s.isRunning = true := State.isRunning_iff.mpr hp
  refine ⟨fun x t h => ?_, fun x h => ?_, fun t h => ?_, fun h => ?_⟩
  · simp only [exec, execHoldExpiry, hrun, h]
    rfl
  · simp only [exec, execHoldExpiry, hrun, h]
  · simp only [exec, execRenewalGapEnd, hrun, h]
    rfl
  · simp only [exec, execRenewalGapEnd, hrun, h]

/-! ## Line reports (R109) -/

/-- An assertion or a deassertion is of a level-type sense, at the level that it asserts or that it leaves (R105, R109). -/
theorem Sense.assertedLevel_of_report (e : Sense) (level : Bool) :
    (e.report level = .assertion → e.assertedLevel = some level) ∧
      (e.report level = .deassertion → e.assertedLevel = some (!level)) := by
  cases e <;> cases level <;> decide

/-- Settles O48: each report command takes the change of level of its line, as the rules have it. -/
theorem lineReportsAreTaken : Obligations.LineReportsAreTaken := by
  refine ⟨rfl, ?_⟩
  intro n level s hp hf report
  have hrun : s.isRunning = true := State.isRunning_iff.mpr hp
  obtain ⟨hassert, hdeassert⟩ := (s.line n).sense.assertedLevel_of_report level
  rw [← State.changeLevel_eq]
  refine ⟨fun h => ?_, fun h => ?_, fun h => ?_⟩
  · exact if_pos ⟨hrun, hf, h⟩
  · simp only [exec, execAssertion, hassert h]
    exact if_pos ⟨hrun, hf⟩
  · have hfl : (s.line n).filtered = !level := by simpa using Bool.eq_not_of_ne hf
    simp only [exec, execDeassertion, hdeassert h, Bool.not_not]
    exact if_pos ⟨hrun, hfl⟩

end Sys2Proof.Machine
end

section
/-! The tables of requests, frames and coded fields (O4). -/

namespace Sys2Proof.Machine

/-! ## Codes -/

theorem Request.code_mem_requestCodes (r : Request) : r.code ∈ requestCodes := by
  cases r <;> decide

theorem Request.ofCode_isSome_of_mem : ∀ b ∈ requestCodes, (Request.ofCode b).isSome = true :=
  List.all_eq_true.mp (by decide : requestCodes.all (fun b => (Request.ofCode b).isSome) = true)

/-- The bytes that name a request are the codes of the table (R171). -/
theorem Request.ofCode_isSome_iff (b : Byte) : (Request.ofCode b).isSome = true ↔ b ∈ requestCodes := by
  refine ⟨fun h => ?_, Request.ofCode_isSome_of_mem b⟩
  obtain ⟨r, hr⟩ := Option.isSome_iff_exists.mp h
  exact Request.code_ofCode hr ▸ r.code_mem_requestCodes

/-! ## Check bytes -/

/-- The two check bytes are the halves of the CRC, the low one first (R155). -/
theorem crcBytes_spec (body : List Byte) : ∃ low high, crcBytes body = [low, high] ∧ high ++ low = crc16 body :=
  ⟨_, _, rfl, by rw [BitVec.extractLsb'_append_extractLsb'_eq_extractLsb' (by rfl)]; simp⟩

theorem partFrame_spec (sess type tag credit : Byte) (payload : List Byte) : ∃ low high,
    partFrame sess type tag credit payload =
      [0xB6#8, byteOf payload.length, sess, type, tag, credit] ++ payload ++ [low, high] ∧
    high ++ low = crc16 ([byteOf payload.length, sess, type, tag, credit] ++ payload) := by
  obtain ⟨low, high, hb, hc⟩ := crcBytes_spec ([byteOf payload.length, sess, type, tag, credit] ++ payload)
  refine ⟨low, high, ?_, hc⟩
  rw [List.append_assoc, ← hb]
  rfl

theorem hostFrame_spec (f : ReqFrame) : ∃ low high,
    hostFrame f = [0xB6#8, byteOf f.payload.length, f.sess, f.type, f.tag] ++ f.payload ++ [low, high] ∧
    high ++ low = crc16 ([byteOf f.payload.length, f.sess, f.type, f.tag] ++ f.payload) := by
  obtain ⟨low, high, hb, hc⟩ := crcBytes_spec ([byteOf f.payload.length, f.sess, f.type, f.tag] ++ f.payload)
  refine ⟨low, high, ?_, hc⟩
  rw [List.append_assoc, ← hb]
  rfl

/-! ## Numbers of several bytes (R154) -/

theorem word16_spec (n : Nat) (hn : n < 65536) :
    ∃ low high, word16 n = [low, high] ∧ low.toNat + 256 * high.toNat = n := by
  refine ⟨_, _, rfl, ?_⟩
  simp only [byteOf, BitVec.toNat_ofNat]
  omega

theorem word32_spec (t : Tick) : ∃ a b c d : Byte, word32 t = [a, b, c, d] ∧ d ++ (c ++ (b ++ a)) = t := by
  refine ⟨_, _, _, _, rfl, ?_⟩
  rw [BitVec.extractLsb'_append_extractLsb'_eq_extractLsb' (by rfl),
    BitVec.extractLsb'_append_extractLsb'_eq_extractLsb' (by rfl),
    BitVec.extractLsb'_append_extractLsb'_eq_extractLsb' (by rfl)]
  simp

/-- Settles O4: the tables by evaluation, the frames and the numbers by the lemmas above. -/
theorem frameAndRequestTables : Obligations.FrameAndRequestTables := by
  refine ⟨by decide, Request.ofCode_isSome_iff, partFrame_spec, hostFrame_spec, by decide +kernel, ?_⟩
  refine ⟨by decide, by decide, by decide, by decide, by decide, by decide, by decide, by decide, by decide, by decide,
    by decide, by decide, by decide, by decide, fun n hn => ?_, word16_spec, word32_spec⟩
  exact Nat.mod_eq_of_lt hn

end Sys2Proof.Machine
end

section
/-! The state right after the power-on reset (O3). -/

namespace Sys2Proof.Machine

/-! ## The records of the reset state -/

@[simp] theorem State.reset_source (x : SourceId) : State.reset.source x = Source.reset := by
  simp [State.source, State.reset]

@[simp] theorem State.reset_line (n : LineId) : State.reset.line n = Line.reset false := by
  simp [State.line, State.reset]

@[simp] theorem State.reset_timer (k : TimerId) : State.reset.timer k = Timer.reset := by
  simp [State.timer, State.reset, TimerUnit.reset]

@[simp] theorem State.reset_session (d : Deliv) : State.reset.session d = Session.reset := by
  simp [State.session, State.reset]

theorem Receiver.reset_slots (i : SlotId) : Receiver.reset.slots[i] = .free := by
  simp [Receiver.reset]

theorem Dispatcher.reset_caches (σ : SessId) : Dispatcher.reset.caches[σ] = none := by
  simp [Dispatcher.reset]

theorem Transmitter.reset_stallOwed (hello : Option Cause) (d : Deliv) :
    (Transmitter.reset hello).stallOwed[d] = false := by
  simp [Transmitter.reset]

/-! ## The laws of the reset state -/

theorem State.reset_deliveryLawful : State.reset.DeliveryLawful :=
  .of_reset State.reset_source State.reset_session

theorem State.reset_alertLaw : State.reset.AlertLaw := by
  have hurgent : urgent State.reset.sources = false := by
    rw [← Bool.not_eq_true, urgent_iff]
    rintro ⟨x, hx⟩
    change (State.reset.source x).contributes = true at hx
    simp [Source.contributes, Source.reset] at hx
  rw [State.AlertLaw, hurgent]
  decide

theorem State.reset_pendingLevelAsserted : State.reset.PendingLevelAsserted := by
  intro x _ hp
  simp [Source.reset] at hp

theorem State.reset_linesLawful : State.reset.LinesLawful := fun n => by
  simp [Line.reset]

theorem State.reset_timersLawful : State.reset.TimersLawful := fun k => by
  simp [Timer.Lawful, Timer.reset]

theorem State.reset_slotsLawful : State.reset.SlotsLawful :=
  ⟨List.nodup_nil, List.nodup_nil, fun i => by
    simp [State.reset, Receiver.reset, Transmitter.reset, Transmitter.replySlots]⟩

theorem State.reset_captureLawful : State.reset.CaptureLawful := fun _ hc => by
  simp [State.reset] at hc

theorem State.reset_stallNoticeLawful : State.reset.StallNoticeLawful := fun d hd => by
  have hn : State.reset.transmitter.stallOwed[d] = false := Transmitter.reset_stallOwed _ d
  simp [hn] at hd

/-- Settles O3: every record has its reset value, and the reset values meet every law. -/
theorem resetLeaves : Obligations.ResetLeaves := by
  have hlaws := State.reset_deliveryLawful
  refine ⟨State.reset_source, fun n => ?_, State.reset_timer, rfl, rfl, rfl, fun d => ?_, rfl, rfl, rfl, rfl,
    Receiver.reset_slots, rfl, rfl, rfl, rfl, Dispatcher.reset_caches, rfl, rfl, rfl, Transmitter.reset_stallOwed _,
    rfl, rfl, rfl, hlaws.sources, hlaws.sessions, hlaws.lists, State.reset_alertLaw, State.reset_pendingLevelAsserted,
    State.reset_linesLawful, State.reset_timersLawful, State.reset_slotsLawful, by decide, hlaws.sending,
    fun h => absurd rfl h, State.reset_captureLawful, State.reset_stallNoticeLawful⟩
  · rw [State.reset_line]
    exact ⟨rfl, rfl, rfl, rfl⟩
  · rw [State.reset_session]
    exact ⟨rfl, rfl, rfl, rfl, fun p => by simp [Session.reset], rfl⟩

end Sys2Proof.Machine
end

section
/-! The resets: of the supply and of RSTn (O50). -/

namespace Sys2Proof.Machine

/-! ## A reset of every block (R22, R90, R104, R118, R140, R169) -/

/-- What a reset of every block leaves: the reset state, but for the clock, the phase, the strap rate, the queue, and the
lines, whose filtered levels take their raw levels. -/
theorem State.resetAll_eq (s : State) (nextTick : Option Instant) (hello : Option Cause) :
    s.resetAll nextTick hello =
      { State.reset with
        clock := s.clock, phase := s.phase, linkRate := s.linkRate, pending := s.pending
        lines := Vector.ofFn fun n =>
          { sense := .rise, filter := 0, raw := (s.line n).raw, filtered := (s.line n).raw, runCount := 0 }
        timeUnit := { State.reset.timeUnit with nextTick := nextTick }
        transmitter := { State.reset.transmitter with hello := hello } } := by
  simp only [State.resetAll, State.resetLink, State.resetLines, State.reset, State.setLines, State.setSources,
    State.setTimeUnit, State.setAlertBlock, TimerUnit.reset, Transmitter.reset, Line.reset, State.line]

/-! ## The supply and RSTn (R168, R185) -/

/-- Settles O50: each command of the pins acts by the phase, and each reset it makes or ends is one of every block. -/
theorem resetsOfThePins : Obligations.ResetsOfThePins := by
  intro br1 br0 s atReset rate ended
  have hheld : ∀ phase, s.heldInReset phase = atReset phase s.clock none none := fun phase => by
    rw [State.heldInReset, State.resetAll_eq]
    rfl
  have hended : ∀ cause, s.endReset cause br1 br0 = ended s.clock cause := fun cause => by
    rw [State.endReset, State.resetAll_eq]
    rfl
  have hreached : ∀ t, (s.reach t).endReset .power br1 br0 = ended (max s.clock t) .power := fun t => by
    rw [State.endReset, State.resetAll_eq]
    rfl
  refine ⟨fun hp => ?_, fun hp => ?_, fun since low hp => ?_, fun hp => ?_, fun hp => ?_, fun since low hp =>
    ⟨fun hl => ?_, fun hl => ?_, ?_, fun hl hc => ?_, fun hl hc => ?_⟩⟩
  · simp only [exec, execPowerOn, hp, hheld, Phase.rstnIsLow]
  · simp only [exec, execPowerOn, hp, hheld, Phase.rstnIsLow]
  · simp only [exec, execPowerOn, hp, hheld, Phase.rstnIsLow]
  · simp only [exec, execRstnAssert, hp, hheld]
  · simp only [exec, execRstnRelease, hp, hended]
  · subst hl
    simp only [exec, execPowerOnResetEnd, hp, hreached, Config.powerOnTime]
  · subst hl
    simp only [exec, execPowerOnResetEnd, hp, State.reach, Config.powerOnTime]
  · simp only [exec, execRstnAssert, hp]
  · subst hl
    simp only [exec, execRstnRelease, hp, Config.powerOnTime, if_pos hc, hended]
  · subst hl
    simp only [exec, execRstnRelease, hp, Config.powerOnTime]
    exact if_neg (Nat.not_le.mpr hc)

end Sys2Proof.Machine
end

section
/-! LINE_SAMPLE (O49): what one line's sample changes, and what the samples of all lines leave, component by component. -/

namespace Sys2Proof.Machine

/-! ## One line's sample (R106, R107, R109) -/

section
variable (s : State) (n : LineId) (l : Line) (report : Report) (a : Alert)

@[simp] theorem State.line_reported (m : LineId) : (s.reported n l report a).line m = if n = m then l else s.line m :=
  s.line_setLine n m l

@[simp] theorem State.source_reported (x : SourceId) : (s.reported n l report a).source x =
    if lineSource n = x then (s.source (lineSource n)).reportTaken report s.now else s.source x :=
  (s.setLine n l).source_setSource _ x _

@[simp] theorem State.timer_reported (k : TimerId) : (s.reported n l report a).timer k =
    (s.timer k).afterReport n ((s.source (lineSource n)).counts report) := by
  simp [State.reported, State.timer]

@[simp] theorem State.reported_sources : (s.reported n l report a).sources =
    s.sources.set (lineSource n) ((s.source (lineSource n)).reportTaken report s.now) := rfl

@[simp] theorem State.reported_alert : (s.reported n l report a).alert = a := rfl

@[simp] theorem State.reported_clock : (s.reported n l report a).clock = s.clock := rfl

@[simp] theorem State.reported_now : (s.reported n l report a).now = s.now := rfl

/-- Writing lines, sources, timers and the alert output anew leaves nothing of a report. -/
theorem State.reported_overwritten (ls : Vector Line 24) (src : Vector Source 32) (ts : Vector Timer 8) (b : Alert) :
    ((((s.reported n l report a).setLines ls).setSources src).setTimers ts).setAlertBlock b =
      (((s.setLines ls).setSources src).setTimers ts).setAlertBlock b := by
  simp only [State.reported, State.setLine, State.setSource, State.setLines, State.setSources, State.setTimers,
    State.setTimeUnit, State.setAlertBlock]
end

@[simp] theorem Timer.afterReport_watched (t : Timer) (n : LineId) (counts : Bool) :
    (t.afterReport n counts).watched = t.watched := by
  unfold Timer.afterReport
  split <;> rfl

theorem Timer.afterReport_of_ne {t : Timer} {n : LineId} (h : t.watched ≠ n) (counts : Bool) : t.afterReport n counts = t :=
  if_neg fun hc => h hc.2.2.1

/-- A report that counts restarts the GAP timers that watch the line, and one that does not count restarts none (R133). -/
theorem State.restartGaps_if (s : State) (n : LineId) (counts : Bool) :
    (if counts = true then s.restartGaps (lineSource n) else s) =
      s.setTimers (Vector.ofFn fun k => (s.timer k).afterReport n counts) := by
  cases counts with
  | false => simp [Timer.afterReport, State.setTimers_ofFn_timer]
  | true =>
    have hw : ∀ t : Timer, t.watched.val = (lineSource n).val ↔ t.watched = n := fun t => Fin.ext_iff.symm
    simp [State.restartGaps, Timer.afterReport, hw, and_comm]

/-- A change of level as one record for the line, its report, and one judgement (R97, R107, R109). -/
theorem State.levelTaken_eq_reported (s : State) (n : LineId) (level : Bool) :
    s.levelTaken n level =
      s.reported n { s.line n with raw := level, filtered := level, runCount := 0 } ((s.line n).sense.report level)
        (s.alert.judge s.clock s.sources (s.sources.set (lineSource n)
          ((s.source (lineSource n)).reportTaken ((s.line n).sense.report level) s.now))) := by
  unfold State.levelTaken
  dsimp only
  rw [State.restartGaps_if]
  rfl

/-- A sample of a line changes its level or writes its record alone (R107). -/
theorem State.sampleLine_eq (s : State) (levels : BitVec 24) (n : LineId) :
    s.sampleLine levels n =
      if (s.line n).changesAt (levels.getLsbD n.val) then s.levelTaken n (levels.getLsbD n.val)
      else s.setLine n ((s.line n).sampledAt (levels.getLsbD n.val)) := by
  simp only [State.sampleLine, Line.changesAt, Line.sampledAt, State.changeLevel_eq, decide_eq_true_eq]
  generalize levels.getLsbD n.val = level
  by_cases he : level = (s.line n).filtered
  · simp [he]
  · by_cases hr : (s.line n).runCount < (s.line n).filter
    · simp [he, hr]
    · simp [he, hr, Nat.not_lt.mp hr]

/-- A record written without a report leaves source, timers and alert output. -/
theorem State.setLine_eq_reported (s : State) (n : LineId) (l : Line) :
    s.setLine n l = s.reported n l .nothing s.alert := by
  have hsource : (s.setLine n l).setSource (lineSource n) (s.source (lineSource n)) = s.setLine n l :=
    (s.setLine n l).setSource_source (lineSource n)
  have htimers := (s.setLine n l).restartGaps_if n false
  simp only [State.reported, Source.reportTaken, Source.counts, hsource]
  exact htimers

/-- A sample of a line writes the line's record, its report and the alert output, which stays when the level does. -/
theorem State.sampleLine_eq_reported (s : State) (levels : BitVec 24) (n : LineId) :
    ∃ a : Alert, a.enabled = s.alert.enabled ∧ a.mode = s.alert.mode ∧
      ((s.line n).changesAt (levels.getLsbD n.val) = false → a = s.alert) ∧
      s.sampleLine levels n =
        s.reported n ((s.line n).sampledAt (levels.getLsbD n.val)) ((s.line n).reportAt (levels.getLsbD n.val)) a := by
  rw [State.sampleLine_eq]
  generalize levels.getLsbD n.val = level
  cases hc : (s.line n).changesAt level with
  | true =>
    rw [if_pos rfl, State.levelTaken_eq_reported]
    obtain ⟨he, hm⟩ := s.alert.judge_settings s.clock s.sources (s.sources.set (lineSource n)
      ((s.source (lineSource n)).reportTaken ((s.line n).sense.report level) s.now))
    refine ⟨_, he, hm, nofun, ?_⟩
    obtain ⟨hne, hle⟩ : level ≠ (s.line n).filtered ∧ (s.line n).filter ≤ (s.line n).runCount := of_decide_eq_true hc
    simp only [Line.reportAt, hc, Line.sampledAt, if_neg hne, if_neg (Nat.not_lt.mpr hle)]
    rfl
  | false =>
    refine ⟨s.alert, rfl, rfl, fun _ => rfl, ?_⟩
    simp only [Line.reportAt, hc]
    exact s.setLine_eq_reported n _

/-! ## The samples of many lines -/

theorem lineSource_inj {n m : LineId} : lineSource n = lineSource m ↔ n = m := by
  simp [lineSource, Fin.ext_iff]

theorem lineSource_ne_timerSource (n : LineId) (k : TimerId) : lineSource n ≠ timerSource k := fun h => by
  have hv := congrArg Fin.val h
  simp only [lineSource, timerSource] at hv
  omega

theorem State.Sampled.refl (s : State) (levels : BitVec 24) : s.Sampled levels [] s where
  only := ⟨s.lines, s.sources, s.timeUnit.timers, s.alert, rfl⟩
  line := fun _ => rfl
  lineSource := fun _ => rfl
  timerSource := fun _ => rfl
  timer := fun _ => rfl
  enabled := rfl
  mode := rfl
  quiet := fun _ => rfl

/-- The sample of a line goes before those of other lines. -/
theorem State.Sampled.cons {s t : State} {levels : BitVec 24} {n : LineId} {ns : List LineId} (hn : n ∉ ns)
    (h : (s.sampleLine levels n).Sampled levels ns t) : s.Sampled levels (n :: ns) t := by
  obtain ⟨a, ha, hm, hq, e⟩ := s.sampleLine_eq_reported levels n
  rw [e] at h
  have hne : ∀ m ∈ ns, n ≠ m := fun m hmem hnm => hn (hnm ▸ hmem)
  exact {
    only := by
      obtain ⟨ls, src, ts, b, ht⟩ := h.only
      exact ⟨ls, src, ts, b, ht.trans (s.reported_overwritten ..)⟩
    line := fun m => by
      rw [h.line m]
      by_cases hnm : n = m
      · subst hnm
        simp [hn]
      · simp [hnm, Ne.symm hnm]
    lineSource := fun m => by
      rw [h.lineSource m]
      by_cases hnm : n = m
      · subst hnm
        simp [hn]
      · simp [hnm, Ne.symm hnm, lineSource_inj]
    timerSource := fun k => by
      rw [h.timerSource k]
      simp [lineSource_ne_timerSource]
    timer := fun k => by
      rw [h.timer k]
      by_cases hnm : (s.timer k).watched = n
      · simp [hnm, hn]
      · simp [hnm, Ne.symm hnm, lineSource_inj, Timer.afterReport_of_ne hnm]
    enabled := h.enabled.trans ha
    mode := h.mode.trans hm
    quiet := fun hall => by
      refine (h.quiet fun m hmem => ?_).trans (hq (hall n List.mem_cons_self))
      simpa [hne m hmem] using hall m (List.mem_cons_of_mem _ hmem) }

theorem State.sampled_foldl (levels : BitVec 24) {ns : List LineId} (hn : ns.Nodup) (s : State) :
    s.Sampled levels ns (ns.foldl (fun t n => t.sampleLine levels n) s) := by
  induction ns generalizing s with
  | nil => exact .refl s levels
  | cons n ns ih =>
    rw [List.nodup_cons] at hn
    exact .cons hn.1 (ih hn.2 _)

/-! ## The changes of level alone -/

theorem State.AlikeOn.source {ns : List LineId} {s t : State} (h : s.AlikeOn ns t) (x : SourceId) : s.source x = t.source x := by
  simp only [State.source, h.sources]

theorem State.AlikeOn.levelTaken {n : LineId} {ns : List LineId} {s t : State} (h : s.AlikeOn (n :: ns) t) (hn : n ∉ ns)
    (level : Bool) : (s.levelTaken n level).AlikeOn ns (t.levelTaken n level) := by
  have hl : s.line n = t.line n := h.line n List.mem_cons_self
  have hs : s.source (lineSource n) = t.source (lineSource n) := h.source _
  rw [State.levelTaken_eq_reported, State.levelTaken_eq_reported]
  refine ⟨h.clock, h.now, ?_, ?_, fun m hm => ?_⟩
  · simp only [State.reported_sources, hl, hs, h.sources, h.now]
  · simp only [State.reported_alert, hl, hs, h.sources, h.now, h.clock, h.alert]
  · have hnm : n ≠ m := fun e => hn (e ▸ hm)
    simp only [State.line_reported, if_neg hnm]
    exact h.line m (List.mem_cons_of_mem n hm)

theorem State.AlikeOn.setLine {n : LineId} {ns : List LineId} {s t : State} (h : s.AlikeOn (n :: ns) t) (hn : n ∉ ns)
    (l : Line) : (s.setLine n l).AlikeOn ns t := by
  refine ⟨h.clock, h.now, h.sources, h.alert, fun m hm => ?_⟩
  have hnm : n ≠ m := fun e => hn (e ▸ hm)
  rw [State.line_setLine, if_neg hnm]
  exact h.line m (List.mem_cons_of_mem n hm)

/-- The samples leave the sources and the alert output as the changes of level leave them, taken one by one. -/
theorem State.alike_foldl (levels : BitVec 24) {ns : List LineId} (hn : ns.Nodup) {s t : State} (h : s.AlikeOn ns t)
    (changes : LineId → Bool) (hc : ∀ n ∈ ns, (t.line n).changesAt (levels.getLsbD n.val) = changes n) :
    (ns.foldl (fun t n => t.sampleLine levels n) s).AlikeOn []
      ((ns.filter changes).foldl (fun t n => t.levelTaken n (levels.getLsbD n.val)) t) := by
  induction ns generalizing s t with
  | nil => exact h
  | cons n ns ih =>
    rw [List.nodup_cons] at hn
    have hl : s.line n = t.line n := h.line n List.mem_cons_self
    have hcn : (t.line n).changesAt (levels.getLsbD n.val) = changes n := hc n List.mem_cons_self
    rw [List.foldl_cons, State.sampleLine_eq, hl, hcn]
    cases hb : changes n with
    | true =>
      rw [List.filter_cons_of_pos hb, List.foldl_cons]
      refine ih hn.2 (h.levelTaken hn.1 _) fun m hm => ?_
      have hnm : n ≠ m := fun e => hn.1 (e ▸ hm)
      rw [State.levelTaken_eq_reported, State.line_reported, if_neg hnm]
      exact hc m (List.mem_cons_of_mem n hm)
    | false =>
      rw [List.filter_cons_of_neg (by simp [hb])]
      exact ih hn.2 (h.setLine hn.1 _) fun m hm => hc m (List.mem_cons_of_mem n hm)

/-! ## Samples in reset (R117) -/

theorem State.lines_sampleInReset_foldl (levels : BitVec 24) (ns : List LineId) (s : State) (n : LineId) :
    (ns.foldl (fun t m => t.sampleInReset levels m) s).line n =
      if n ∈ ns then (s.line n).followed (levels.getLsbD n.val) else s.line n := by
  induction ns generalizing s with
  | nil => rfl
  | cons m ns ih =>
    rw [List.foldl_cons, ih, State.sampleInReset, State.line_setLine]
    by_cases hmn : m = n
    · subst hmn
      simp [Line.followed]
    · simp [hmn, Ne.symm hmn]

theorem State.sampleInReset_foldl_only (levels : BitVec 24) (ns : List LineId) (s : State) :
    ∃ ls, ns.foldl (fun t m => t.sampleInReset levels m) s = s.setLines ls := by
  induction ns generalizing s with
  | nil => exact ⟨s.lines, rfl⟩
  | cons m ns ih => exact ih (s.sampleInReset levels m)

/-! ## LINE_SAMPLE -/

/-- The lines of a state, read line by line. -/
theorem State.lines_eq_ofFn {s : State} {f : LineId → Line} (h : ∀ n, s.line n = f n) : s.lines = Vector.ofFn f := by
  ext1 i hi
  rw [Vector.getElem_ofFn]
  exact h ⟨i, hi⟩

/-- The timers of a state, read timer by timer. -/
theorem State.timers_eq_ofFn {s : State} {f : TimerId → Timer} (h : ∀ k, s.timer k = f k) :
    s.timeUnit.timers = Vector.ofFn f := by
  ext1 i hi
  rw [Vector.getElem_ofFn]
  exact h ⟨i, hi⟩

/-- A change that writes lines, sources, timers and the alert output alone leaves them as it left them. -/
theorem State.eq_of_only {s t : State}
    (h : ∃ ls src ts a, t = (((s.setLines ls).setSources src).setTimers ts).setAlertBlock a) :
    t = (((s.setLines t.lines).setSources t.sources).setTimers t.timeUnit.timers).setAlertBlock t.alert := by
  obtain ⟨ls, src, ts, a, rfl⟩ := h
  rfl

/-- Settles O49: each line, source and timer from its own sample, and sources and alert output from the changes of level. -/
theorem lineSampleFilters : Obligations.LineSampleFilters := by
  intro levels s
  refine ⟨fun hp => ?_, fun hp => ?_⟩
  · intro changes report taken
    have hs := State.sampled_foldl levels (List.nodup_finRange 24) (s.setClock (s.clock + 1))
    have halike : State.AlikeOn [] _ taken :=
      State.alike_foldl levels (List.nodup_finRange 24) ⟨rfl, rfl, rfl, rfl, fun _ _ => rfl⟩ changes fun _ _ => rfl
    have hexec : exec (.lineSample levels) s =
        .next ((List.finRange 24).foldl (fun t n => t.sampleLine levels n) (s.setClock (s.clock + 1))) :=
      if_pos (State.isRunning_iff.mpr hp)
    have hlines := State.lines_eq_ofFn fun n => (hs.line n).trans (if_pos (List.mem_finRange n))
    have htimers := State.timers_eq_ofFn fun k =>
      (hs.timer k).trans (if_pos (List.mem_finRange ((s.setClock (s.clock + 1)).timer k).watched))
    simp only [Timer.afterReport, true_and] at htimers
    refine ⟨_, _, halike.sources, halike.alert, fun n => ?_, hs.timerSource, hs.enabled, hs.mode,
      fun h => hs.quiet fun n _ => h n, ?_⟩
    · exact (hs.lineSource n).trans (if_pos (List.mem_finRange n))
    · rw [hexec, State.eq_of_only hs.only, hlines, htimers]
      rfl
  · obtain ⟨ls, hls⟩ := State.sampleInReset_foldl_only levels (List.finRange 24) (s.setClock (s.clock + 1))
    have hexec : exec (.lineSample levels) s =
        .next ((List.finRange 24).foldl (fun t n => t.sampleInReset levels n) (s.setClock (s.clock + 1))) :=
      if_neg (mt State.isRunning_iff.mp hp)
    have hlines := State.lines_eq_ofFn
      (State.lines_sampleInReset_foldl levels (List.finRange 24) (s.setClock (s.clock + 1)))
    simp only [List.mem_finRange, if_true] at hlines
    rw [hls] at hlines
    rw [hexec, hls]
    exact congrArg (fun v => Host.Outcome.next ((s.setClock (s.clock + 1)).setLines v)) hlines

end Sys2Proof.Machine
end

section
/-! RESET takes effect at the end of its reply (O43). -/

namespace Sys2Proof.Machine

/-! ## Many counted occurrences (R133) -/

theorem Timer.restartedFor_watched (t : Timer) (b : Bool) : (t.restartedFor b).watched = t.watched := by
  unfold Timer.restartedFor
  split <;> rfl

/-- A second restart leaves a timer as the first left it. -/
theorem Timer.restartedFor_restartedFor (t : Timer) (b c : Bool) :
    (t.restartedFor b).restartedFor c = t.restartedFor (b || c) := by
  by_cases hm : t.mode = .gap ∧ t.state ≠ .stopped
  · cases b <;> cases c <;> simp [Timer.restartedFor, hm, Timer.restarted]
  · have hid : ∀ b, t.restartedFor b = t := fun b => if_neg fun h => hm ⟨h.1, h.2.1⟩
    simp only [hid]

theorem State.restartGaps_eq_restartedFor (s : State) (x : SourceId) :
    s.restartGaps x =
      s.setTimers (Vector.ofFn fun k => (s.timer k).restartedFor (lineSource (s.timer k).watched == x)) := by
  have hw : ∀ t : Timer, t.watched.val = x.val ↔ lineSource t.watched = x := fun t => by
    rw [Fin.ext_iff]
    rfl
  simp [State.restartGaps, Timer.restartedFor, hw, and_comm]

/-- Counted occurrences of many sources restart each GAP timer at work that watches one of them. -/
theorem State.countedOccurrences_eq (s : State) (xs : List SourceId) :
    xs.foldl State.countedOccurrence s =
      s.setTimers (Vector.ofFn fun k => (s.timer k).restartedFor (xs.contains (lineSource (s.timer k).watched))) := by
  induction xs generalizing s with
  | nil => simp [Timer.restartedFor, State.setTimers_ofFn_timer]
  | cons x xs ih =>
    rw [List.foldl_cons, ih, State.countedOccurrence_eq, State.restartGaps_eq_restartedFor]
    simp only [State.timer, State.setTimers_timers, Fin.getElem_fin, Vector.getElem_ofFn, Timer.restartedFor_watched,
      Timer.restartedFor_restartedFor, List.contains_cons]
    rfl

/-! ## The sources of RESET DELIVERY (R23) -/

theorem State.raisedByDelivery_eq (s : State) (x : SourceId) :
    s.raisedByDelivery x = (decide ((s.source x).admission ≠ .off) && s.isAsserted x) := by
  rw [State.raisedByDelivery, bne, beq_eq_decide, decide_not]

/-- Every source loses its delivery state, and the raised ones are PENDING with one occurrence, of the present (R23). -/
theorem State.deliverySources_eq (s : State) :
    s.deliverySources = Vector.ofFn fun x : SourceId =>
      { s.source x with
        state := if s.raisedByDelivery x then .pending else .idle, holder := none
        count := if s.raisedByDelivery x then 1 else 0, saturated := false
        firstTime := if s.raisedByDelivery x then some s.now else none
        lastTime := if s.raisedByDelivery x then some s.now else none, holdUntil := none } := by
  unfold State.deliverySources
  congr
  funext x
  cases s.raisedByDelivery x <;> rfl

/-! ## The reset takes effect (R184) -/

theorem State.takeReset_phase (s : State) (scope : Scope) : (s.takeReset scope).phase = s.phase := by
  cases scope with
  | full => simp only [State.takeReset, State.resetFull, State.resetAll_eq]
  | delivery => exact s.resetDelivery_phase

/-- A pick with the part running and LTX idle (R164). -/
theorem exec_pick {s : State} (hp : s.phase = .running) (hf : s.transmitter.frame = none) :
    exec .pick s = .next s.pickFrame := if_pos ⟨State.isRunning_iff.mpr hp, hf⟩

/-- The end of the reply of an executed RESET: LTX idle, the slot free, the reset taken, and a pick. -/
theorem exec_endOfFrame_reset {s : State} {f : TxFrame} {slot : SlotId} {scope : Scope} (hp : s.phase = .running)
    (hf : s.transmitter.frame = some f) (hk : f.kind = .reply slot true) (hr : s.dispatcher.pendingReset = some scope)
    (order : EndOrder) :
    exec (.endOfFrame order) s = exec .pick ((s.frameGone.releaseSlot slot).takeReset scope) := by
  have hr' : s.frameGone.dispatcher.pendingReset = some scope := hr
  have hphase : ((s.frameGone.releaseSlot slot).takeReset scope).phase = .running := (State.takeReset_phase _ scope).trans hp
  rw [exec_pick hphase (State.takeReset_frame _ scope)]
  simp only [exec, execEndOfFrame, State.isRunning_iff.mpr hp, hf, State.frameEnded, hk, State.replyEnded, hr']

theorem State.timer_resetLink (s : State) (hello : Option Cause) (k : TimerId) : (s.resetLink hello).timer k = s.timer k :=
  rfl

/-- RESET DELIVERY block by block. -/
theorem State.resetDelivery_eq (s : State) :
    s.resetDelivery =
      (((s.resetLink (some .delivery)).setSources s.deliverySources).setTimers (Vector.ofFn fun k =>
        (s.timer k).restartedFor (s.raisedByDelivery (lineSource (s.timer k).watched)))).setAlertBlock
        { s.alert with gap := none, pin := s.alert.enabled && urgent s.deliverySources } := by
  have hraised : ∀ x, ((List.finRange 32).filter s.raisedByDelivery).contains x = s.raisedByDelivery x := fun x => by
    rw [Bool.eq_iff_iff, List.contains_iff_mem, List.mem_filter]
    exact and_iff_right (List.mem_finRange x)
  simp only [State.resetDelivery, State.countedOccurrences_eq, hraised, State.timer_setSources, State.timer_resetLink,
    State.setTimers_sources, State.setSources_sources]

/-- Settles O43: what each scope makes of the blocks, on the state with LTX idle and the reply's slot free. -/
theorem resetTakesEffect : Obligations.ResetTakesEffect := by
  intro f slot order s hp hf hk restarted
  refine ⟨fun hr => ?_, fun hr => ?_⟩
  · rw [exec_endOfFrame_reset hp hf hk hr]
    refine congrArg (exec .pick) ?_
    simp only [State.takeReset, State.resetFull, State.resetAll_eq, State.firstTick]
    rfl
  · intro raised sources
    rw [exec_endOfFrame_reset hp hf hk hr]
    refine congrArg (exec .pick) ?_
    have hraised : ∀ x, (s.frameGone.releaseSlot slot).raisedByDelivery x = raised x := fun x =>
      State.raisedByDelivery_eq _ x
    have hsource : ∀ x, (s.frameGone.releaseSlot slot).source x = s.source x := fun _ => rfl
    have htimer : ∀ k, (s.frameGone.releaseSlot slot).timer k = s.timer k := fun _ => rfl
    have hnow : (s.frameGone.releaseSlot slot).now = s.now := rfl
    have halert : (s.frameGone.releaseSlot slot).alert = s.alert := rfl
    simp only [State.takeReset, State.resetDelivery_eq, State.deliverySources_eq, hraised, hsource, htimer, hnow, halert,
      State.setAlertBlock, State.setTimers, State.setTimeUnit, State.setSources, State.resetLink]
    rfl

end Sys2Proof.Machine
end

section
/-! PICK polls the sessions for an offer frame (O41). -/

namespace Sys2Proof.Machine

/-! ## Polling (R39, R165) -/

/-- The sessions in the order of the poll: from the one after the pointer, wrapping (R165). -/
theorem pollOrder_eq (p : Option Deliv) :
    pollOrder p = match p with
      | none => [0, 1, 2, 3]
      | some p => [p + 1, p + 2, p + 3, p] := by
  cases p with
  | none => rfl
  | some p =>
    revert p
    decide

/-- A session that does not answer is passed over (R165). -/
theorem State.poll_append {s : State} {passed : List Deliv} (h : ∀ e ∈ passed, s.pollAnswer e = none) (rest : List Deliv) :
    s.poll (passed ++ rest) = s.poll rest := by
  induction passed with
  | nil => rfl
  | cons e es ih =>
    rw [List.cons_append, State.poll, h e List.mem_cons_self]
    exact ih fun e' he' => h e' (List.mem_cons_of_mem e he')

/-- The first session that answers is served (R165). -/
theorem State.poll_cons {s s' : State} {d : Deliv} {o : Offer} (h : s.pollAnswer d = some (o, s')) (rest : List Deliv) :
    s.poll (d :: rest) = s'.startEvt d o := by
  rw [State.poll, h]

/-- No reply and no notice: the sessions are polled (R164). -/
theorem State.pickFrame_eq_poll {s : State} (hr : s.transmitter.replyQueue = []) (hh : s.transmitter.hello = none)
    (hl : s.transmitter.linkOwed = false) (hst : ∀ d : Deliv, s.transmitter.stallOwed[d] = false) :
    s.pickFrame = s.poll (pollOrder s.transmitter.rrPointer) := by
  have hfirst : s.firstStall = none := by
    simp [State.firstStall, List.find?_eq_none, hst]
  simp [State.pickFrame, hr, hh, hl, hfirst]

/-- A session that is not ACTIVE, or that owes no resend and has no eligible source, does not answer (R39). -/
theorem State.pollAnswer_eq_none {s : State} {d : Deliv}
    (h : (s.session d).isActive = false ∨ ((∀ o ∈ (s.session d).offers, o.sendOwed = false) ∧ s.select d = none)) :
    s.pollAnswer d = none := by
  obtain h | ⟨ho, hs⟩ := h
  · simp [State.pollAnswer, h]
  · have hf : (s.session d).offers.find? Offer.sendOwed = none := List.find?_eq_none.mpr fun o hm => by simp [ho o hm]
    simp [State.pollAnswer, hf, hs]

/-- The oldest offer with the property is the one changed. -/
theorem updateFirst_append {p : Offer → Bool} {before : List Offer} (hb : ∀ q ∈ before, p q = false) {o : Offer}
    (ho : p o = true) (f : Offer → Offer) (after : List Offer) :
    updateFirst p f (before ++ o :: after) = before ++ f o :: after := by
  induction before with
  | nil => simp [updateFirst, ho]
  | cons q qs ih =>
    have hq : p q = false := hb q List.mem_cons_self
    simp [updateFirst, hq, ih fun r hr => hb r (List.mem_cons_of_mem q hr)]

/-- An owed resend goes before a new offer (R39, R49). -/
theorem State.pollAnswer_resend {s : State} {d : Deliv} {before after : List Offer} {o : Offer}
    (ha : (s.session d).isActive = true) (hoff : (s.session d).offers = before ++ o :: after)
    (hb : ∀ q ∈ before, q.sendOwed = false) (ho : o.sendOwed = true) :
    s.pollAnswer d =
      some (o.resent, s.setSession d { s.session d with offers := before ++ o.resent :: after }) := by
  have hfb : before.find? Offer.sendOwed = none := List.find?_eq_none.mpr fun q hq => by simp [hb q hq]
  have hf : (before ++ o :: after).find? Offer.sendOwed = some o := by
    rw [List.find?_append, hfb, Option.none_or, List.find?_cons_of_pos ho]
  simp [State.pollAnswer, ha, hoff, hf, updateFirst_append hb ho]

/-- With no owed resend the selected source is claimed (R14, R39, R40). -/
theorem State.pollAnswer_create {s : State} {d : Deliv} {x : SourceId} (ha : (s.session d).isActive = true)
    (hb : ∀ q ∈ (s.session d).offers, q.sendOwed = false) (hx : s.select d = some x) :
    s.pollAnswer d = some (offerOf (s.source x) x (s.session d).assignDN, s.createOffer d x) := by
  have hf : (s.session d).offers.find? Offer.sendOwed = none := List.find?_eq_none.mpr fun q hq => by simp [hb q hq]
  simp [State.pollAnswer, ha, hf, hx]

/-! ## The EVT frame (R42, R161, R172) -/

theorem State.credit_eq_countP (s : State) :
    s.credit = (List.finRange 4).countP fun i => s.receiver.slots[i] == .free := by
  rw [State.credit, ← List.countP_eq_length_filter]
  rfl

/-- The start of an EVT frame from a state with the lines and the link of `s`: the session becomes the round-robin pointer,
and the bytes are those of R172. -/
theorem State.startEvt_eq {s t : State} (ht : t.transmitter = s.transmitter) (hr : t.receiver = s.receiver)
    (hl : t.lines = s.lines) (d : Deliv) (o : Offer) :
    t.startEvt d o = t.setTransmitter { s.transmitter with
      rrPointer := some d
      frame := some
        { kind := .evt d o.dn
          bytes := partFrame (byteOf (d.val + 1)) 0x81#8 o.dn
            (byteOf ((List.finRange 4).countP fun i => s.receiver.slots[i] == .free))
            ([byteOf o.source.val, byteOf o.priority.val] ++ word16 o.count ++ [flagByte o.saturated] ++
              word32 (o.firstTime.getD 0) ++ word32 (o.lastTime.getD 0) ++
              [byteOf o.sendNumber, flagByte (s.lineLevel o.source)]) } } := by
  have hlevel : t.lineLevel o.source = s.lineLevel o.source := by simp only [State.lineLevel, State.line, hl]
  rw [← hlevel, ← hr, ← ht, ← State.credit_eq_countP]
  rfl

/-- Settles O41: the poll passes over the silent sessions and serves the first that answers. -/
theorem pickPollsTheSessions : Obligations.PickPollsTheSessions := by
  intro s hp hf hr hh hl hst silent order served
  have horder : pollOrder s.transmitter.rrPointer = order := pollOrder_eq _
  have hexec : exec .pick s = .next (s.poll order) := by
    rw [exec_pick hp hf, State.pickFrame_eq_poll hr hh hl hst, horder]
  have hsilent : ∀ e, silent e → s.pollAnswer e = none := fun e => State.pollAnswer_eq_none
  refine ⟨fun hall => ?_, fun passed rest d hsplit hpassed ha => ?_⟩
  · rw [hexec, ← List.append_nil order, State.poll_append fun e _ => hsilent e (hall e), State.poll]
  · have hserved : ∀ {o t}, s.pollAnswer d = some (o, t) → exec .pick s = .next (t.startEvt d o) := fun h => by
      rw [hexec, hsplit, State.poll_append fun e he => hsilent e (hpassed e he), State.poll_cons h]
    refine ⟨fun before after o hoff hb ho => ?_, fun x hb hx => ?_⟩
    · intro o'
      exact (hserved (State.pollAnswer_resend ha hoff hb ho)).trans
        (congrArg Host.Outcome.next (State.startEvt_eq rfl rfl rfl d o'))
    · intro r dn o
      exact (hserved (State.pollAnswer_create ha hb hx)).trans
        (congrArg Host.Outcome.next (State.startEvt_eq rfl rfl rfl d o))

end Sys2Proof.Machine
end

section
/-! The rules of a poll: the source selected at a session (O52) and the DN of its offer (O53). -/

namespace Sys2Proof.Machine

/-! ## The highest priority (R36) -/

/-- One more source's priority to the highest so far, as `State.topPriority` takes it. -/
def State.higher (s : State) (best : Option Priority) (x : SourceId) : Option Priority :=
  some (max (best.getD 0) (s.source x).priority)

theorem State.topPriority_eq_foldl (s : State) (d : Deliv) :
    s.topPriority d = ((List.finRange 32).filter (s.eligible d)).foldl s.higher none := rfl

theorem State.foldl_higher_some (s : State) (l : List SourceId) (b : Priority) :
    ∃ p, l.foldl s.higher (some b) = some p ∧ b ≤ p ∧ (∀ x ∈ l, (s.source x).priority ≤ p) ∧
      (p = b ∨ ∃ x ∈ l, (s.source x).priority = p) := by
  induction l generalizing b with
  | nil => exact ⟨b, rfl, le_refl b, nofun, .inl rfl⟩
  | cons x l ih =>
    obtain ⟨p, hp, hb, hl, hor⟩ := ih (max b (s.source x).priority)
    obtain ⟨hbp, hxp⟩ := max_le_iff.mp hb
    refine ⟨p, hp, hbp, List.forall_mem_cons.mpr ⟨hxp, hl⟩, ?_⟩
    obtain rfl | ⟨y, hy, hyp⟩ := hor
    · obtain h | h := max_choice b (s.source x).priority
      · exact .inl h
      · exact .inr ⟨x, List.mem_cons_self, h.symm⟩
    · exact .inr ⟨y, List.mem_cons_of_mem x hy, hyp⟩

/-- With an eligible source the highest priority is that of an eligible source, and no eligible source's is above it. -/
theorem State.topPriority_spec {s : State} {d : Deliv} {x : SourceId} (hx : s.eligible d x = true) :
    ∃ p, s.topPriority d = some p ∧ (∀ y, s.eligible d y = true → (s.source y).priority ≤ p) ∧
      ∃ y, s.eligible d y = true ∧ (s.source y).priority = p := by
  have hmem : ∀ y, y ∈ (List.finRange 32).filter (s.eligible d) ↔ s.eligible d y = true := by simp
  rw [State.topPriority_eq_foldl]
  cases hl : (List.finRange 32).filter (s.eligible d) with
  | nil => exact absurd ((hmem x).mpr hx) (by simp [hl])
  | cons z l =>
    have hz : s.higher none z = some (s.source z).priority := by simp [State.higher]
    obtain ⟨p, hp, hzp, hle, hor⟩ := s.foldl_higher_some l (s.source z).priority
    simp only [hl, List.mem_cons] at hmem
    refine ⟨p, by rw [List.foldl_cons, hz, hp], fun y hy => ?_, ?_⟩
    · obtain rfl | hy := (hmem y).mpr hy
      · exact hzp
      · exact hle y hy
    · obtain rfl | ⟨y, hy, hyp⟩ := hor
      · exact ⟨z, (hmem z).mp (.inl rfl), rfl⟩
      · exact ⟨y, (hmem y).mp (.inr hy), hyp⟩

theorem State.topPriority_eq_none {s : State} {d : Deliv} (h : ∀ x, s.eligible d x = false) :
    s.topPriority d = none := by
  have hnil : (List.finRange 32).filter (s.eligible d) = [] := by simp [h]
  rw [State.topPriority_eq_foldl, hnil, List.foldl_nil]

/-! ## The count from the rotation pointer (R37) -/

/-- How many source ids the count passes over before it meets `y`. -/
def rotationRank : Option SourceId → SourceId → Nat
  | none, y => y.val
  | some p, y => (y - p - 1).val

theorem mem_rotationOrder (pointer : Option SourceId) (y : SourceId) : y ∈ rotationOrder pointer := by
  cases pointer with
  | none => exact List.mem_finRange y
  | some p => exact List.mem_map.mpr ⟨y - p - 1, List.mem_finRange _, by abel⟩

/-- The count meets the source ids in the order of their ranks. -/
theorem rotationOrder_pairwise (pointer : Option SourceId) :
    (rotationOrder pointer).Pairwise fun x y => rotationRank pointer x < rotationRank pointer y := by
  cases pointer with
  | none => exact List.pairwise_lt_finRange 32
  | some p =>
    have hrank : ∀ k : SourceId, rotationRank (some p) (p + 1 + k) = k.val := fun k => by
      rw [rotationRank, show p + 1 + k - p - 1 = k by abel]
    simp only [rotationOrder, List.pairwise_map, hrank]
    exact List.pairwise_lt_finRange 32

/-- The first of the count that meets a condition has the lowest rank of all that meet it. -/
theorem rotationRank_le_of_find? {pointer : Option SourceId} {q : SourceId → Bool} {x y : SourceId}
    (h : (rotationOrder pointer).find? q = some x) (hy : q y = true) : rotationRank pointer x ≤ rotationRank pointer y := by
  obtain ⟨-, before, after, hsplit, hbefore⟩ := List.find?_eq_some_iff_append.mp h
  have hpair := rotationOrder_pairwise pointer
  have hmem := mem_rotationOrder pointer y
  rw [hsplit] at hpair hmem
  obtain ⟨hafter, -⟩ := List.pairwise_cons.mp (List.pairwise_append.mp hpair).2.1
  obtain hb | rfl | ha : y ∈ before ∨ y = x ∨ y ∈ after := by simpa using hmem
  · exact absurd hy (by simpa using hbefore y hb)
  · exact le_refl _
  · exact (hafter y ha).le

/-! ## Selection (R36, R37) -/

theorem State.select_eq_find? {s : State} {d : Deliv} {p : Priority} (h : s.topPriority d = some p) :
    s.select d = (rotationOrder (s.session d).rotation[p]).find? fun x =>
      s.eligible d x && (s.source x).priority == p := by
  rw [State.select, h]

/-- A session with an eligible source selects one. -/
theorem State.select_isSome_of_eligible {s : State} {d : Deliv} {x : SourceId} (hx : s.eligible d x = true) :
    (s.select d).isSome = true := by
  obtain ⟨p, htop, -, y, hy, hyp⟩ := State.topPriority_spec hx
  rw [State.select_eq_find? htop, List.find?_isSome]
  exact ⟨y, mem_rotationOrder _ y, by simp [hy, hyp]⟩

theorem State.select_eq_none_iff (s : State) (d : Deliv) : s.select d = none ↔ ∀ x, s.eligible d x = false := by
  constructor
  · exact fun hnone x => Bool.eq_false_iff.mpr fun hx => by simpa [hnone] using State.select_isSome_of_eligible hx
  · intro h
    rw [State.select, State.topPriority_eq_none h]

/-- No eligible source has a higher priority than the selected one, and none of its priority is met before it. -/
theorem State.select_first {s : State} {d : Deliv} {x y : SourceId} (h : s.select d = some x)
    (hy : s.eligible d y = true) :
    (s.source y).priority ≤ (s.source x).priority ∧
      ((s.source y).priority = (s.source x).priority →
        rotationRank (s.session d).rotation[(s.source x).priority] x ≤
          rotationRank (s.session d).rotation[(s.source x).priority] y) := by
  obtain ⟨p, htop, hmax, -⟩ := State.topPriority_spec hy
  rw [State.select_eq_find? htop] at h
  obtain ⟨-, rfl⟩ : s.eligible d x = true ∧ (s.source x).priority = p := by simpa using List.find?_some h
  exact ⟨hmax y hy, fun he => rotationRank_le_of_find? h (by simp [hy, he])⟩

/-- Settles O52: the highest priority of the fold, then the first of the count in the order of the ranks. -/
theorem selectionRule : Obligations.SelectionRule := by
  intro d s
  refine ⟨s.select_eq_none_iff d, fun x hx => ⟨State.eligible_of_select hx, fun y hy => ?_⟩⟩
  obtain ⟨hle, hfirst⟩ := State.select_first hx hy
  refine ⟨hle, fun he => ?_⟩
  have hrank := hfirst he
  cases hp : (s.session d).rotation[(s.source x).priority] with
  | none => simpa only [hp, rotationRank] using hrank
  | some p => simpa only [hp, rotationRank] using hrank

/-! ## The DN of a new offer (R41) -/

/-- Settles O53: the count passes at most one value for each offer of the list. -/
theorem deliveryNumberIsFresh : Obligations.DeliveryNumberIsFresh := by
  intro v hlen
  obtain ⟨n, hn, hdn, hfree, hpassed⟩ := v.assignDN_spec (by omega)
  exact ⟨n, hn.trans hlen, hdn, hfree, hpassed⟩

end Sys2Proof.Machine
end

section
/-! The laws of the pin, of the capture and of the STALL notice are kept by every step: what the operations make of the
three blocks that the laws read (O57). -/

namespace Sys2Proof.Machine

/-! ## The law of the pin (R98, R100) -/

/-- The law of the alert output where the urgent condition is `u` (R98, R100). -/
def Alert.Fits (a : Alert) (u : Bool) : Prop :=
  a.pin = (a.enabled && a.gap.isNone && u) ∧ (a.gap.isSome = true → a.enabled = true ∧ a.mode = .renew)

theorem State.alertLaw_iff (s : State) : s.AlertLaw ↔ s.alert.Fits (urgent s.sources) := Iff.rfl

/-- With no gap the pin is high exactly when enabled with the condition holding. -/
theorem Alert.fits_of_gap_none {a : Alert} {u : Bool} (hg : a.gap = none) (hp : a.pin = (a.enabled && u)) : a.Fits u := by
  simp [Alert.Fits, hg, hp]

/-- A judgement starts a gap in RENEW mode enabled alone (R101). -/
theorem Alert.judge_gap (a : Alert) (c : Instant) (b t : Vector Source 32) :
    (a.judge c b t).gap = a.gap ∨ (a.enabled = true ∧ a.mode = .renew) := by
  unfold Alert.judge
  split
  · exact .inl rfl
  · rename_i hon
    split
    · exact .inl rfl
    · split
      · exact .inl rfl
      · split
        · rename_i hrenew
          simp only [Bool.and_eq_true, beq_iff_eq] at hrenew
          exact .inr ⟨by simpa using hon, hrenew.1.1⟩
        · exact .inl rfl

/-- Whatever the pin was, a judgement leaves it as the law has it (R97, R100). -/
theorem Alert.Fits.judge {a : Alert} {u : Bool} (h : a.Fits u) (c : Instant) (b t : Vector Source 32) :
    (a.judge c b t).Fits (urgent t) := by
  obtain ⟨he, hm⟩ := a.judge_settings c b t
  refine ⟨?_, fun hg => ?_⟩
  · obtain hp | ⟨hoff, hp⟩ := a.judge_pin c b t
    · rw [he, hp]
    · simp [he, hoff, hp]
  · rw [he, hm]
    obtain hsame | hon := a.judge_gap c b t
    · exact h.2 (hsame ▸ hg)
    · exact hon

/-- SET_ALERT keeps the law: the gap is given up, and a pin that stays is one that no gap holds low (R103). -/
theorem Alert.Fits.configure {a : Alert} {u : Bool} (h : a.Fits u) (enabled : Bool) (mode : AlertMode) :
    (a.configure enabled mode u).Fits u := by
  unfold Alert.configure
  split
  · exact h
  · split
    · exact Alert.fits_of_gap_none rfl rfl
    · exact Alert.fits_of_gap_none rfl rfl
    · rename_i hon _
      split
      · exact Alert.fits_of_gap_none rfl rfl
      · rename_i hg
        have hn : a.gap = none := by simpa using hg
        exact Alert.fits_of_gap_none rfl (by simp [h.1, hn, hon])

/-! ## The three laws together -/

/-- Each of the three laws holds of `t` if it holds of `s`. -/
structure State.KeepsSignals (s t : State) : Prop where
  alert : s.AlertLaw → t.AlertLaw
  capture : s.CaptureLawful → t.CaptureLawful
  stall : s.StallNoticeLawful → t.StallNoticeLawful

/-- The alert output, the capture, the STALL flags and the stall records are the same: what the three laws read but the
sources. -/
structure State.SameSignals (s t : State) : Prop where
  alert : t.alert = s.alert
  capture : t.capture = s.capture
  owed : t.transmitter.stallOwed = s.transmitter.stallOwed
  stall : ∀ d, (t.session d).stall = (s.session d).stall

variable {s t u : State}

theorem State.KeepsSignals.refl (s : State) : s.KeepsSignals s := ⟨id, id, id⟩

theorem State.KeepsSignals.trans (h : s.KeepsSignals t) (h' : t.KeepsSignals u) : s.KeepsSignals u :=
  ⟨h'.alert ∘ h.alert, h'.capture ∘ h.capture, h'.stall ∘ h.stall⟩

theorem State.SameSignals.refl (s : State) : s.SameSignals s := ⟨rfl, rfl, rfl, fun _ => rfl⟩

theorem State.SameSignals.trans (h : s.SameSignals t) (h' : t.SameSignals u) : s.SameSignals u :=
  ⟨h'.alert.trans h.alert, h'.capture.trans h.capture, h'.owed.trans h.owed, fun d => (h'.stall d).trans (h.stall d)⟩

/-- A write of a session that leaves its stall record. -/
theorem State.SameSignals.setSession {d : Deliv} {v : Session} (hv : v.stall = (s.session d).stall) :
    s.SameSignals (s.setSession d v) := by
  refine ⟨rfl, rfl, rfl, fun e => ?_⟩
  rw [State.session_setSession]
  split
  · rename_i he
    exact he ▸ hv
  · rfl

theorem State.SameSignals.setSources (h : s.SameSignals t) (src : Vector Source 32) : s.SameSignals (t.setSources src) :=
  ⟨h.alert, h.capture, h.owed, h.stall⟩

theorem State.SameSignals.captureLawful (h : s.SameSignals t) (hc : s.CaptureLawful) : t.CaptureLawful := by
  unfold State.CaptureLawful
  rw [h.capture]
  exact hc

theorem State.SameSignals.stallNoticeLawful (h : s.SameSignals t) (hn : s.StallNoticeLawful) : t.StallNoticeLawful := by
  intro d
  rw [h.owed, h.stall]
  exact hn d

/-- A change of sources judged by the alert output (R97). -/
theorem State.SameSignals.judged (h : s.SameSignals t) (b : State) : s.KeepsSignals (t.judged b) where
  alert := fun ha => Alert.Fits.judge (h.alert ▸ ha : t.alert.Fits (urgent s.sources)) _ _ _
  capture := h.captureLawful
  stall := h.stallNoticeLawful

/-- The sources are the same as well. -/
theorem State.SameSignals.keeps (h : s.SameSignals t) (hx : t.sources = s.sources) : s.KeepsSignals t where
  alert := fun ha => by
    rw [State.alertLaw_iff, h.alert, hx]
    exact ha
  capture := h.captureLawful
  stall := h.stallNoticeLawful

/-- A change of blocks that the laws do not read. -/
theorem State.KeepsSignals.of_blocks (hx : t.sources = s.sources) (hs : t.sessions = s.sessions) (ha : t.alert = s.alert)
    (hc : t.capture = s.capture) (ho : t.transmitter.stallOwed = s.transmitter.stallOwed) : s.KeepsSignals t :=
  State.SameSignals.keeps ⟨ha, hc, ho, fun d => by rw [State.session_congr hs]⟩ hx

/-- What is done to other blocks before a change that keeps the laws. -/
theorem State.KeepsSignals.after (h : t.KeepsSignals u) (hx : t.sources = s.sources) (hs : t.sessions = s.sessions)
    (ha : t.alert = s.alert) (hc : t.capture = s.capture) (ho : t.transmitter.stallOwed = s.transmitter.stallOwed) :
    s.KeepsSignals u := (State.KeepsSignals.of_blocks hx hs ha hc ho).trans h

/-- A reset leaves no gap, no capture and no STALL notice owed, with the pin at the condition (R104, R151, R169). -/
theorem State.KeepsSignals.of_reset (hg : t.alert.gap = none) (hp : t.alert.pin = (t.alert.enabled && urgent t.sources))
    (hc : t.capture = none) (ho : ∀ d : Deliv, t.transmitter.stallOwed[d] = false) : s.KeepsSignals t where
  alert := fun _ => Alert.fits_of_gap_none hg hp
  capture := fun _ c h => by simp [hc] at h
  stall := fun _ d h => by simp [ho d] at h

/-- One session's STALL flag and stall record change together: the flag is cleared, or the record is that of a stall
(R54, R187). -/
theorem State.StallNoticeLawful.set_one (h : s.StallNoticeLawful) {d : Deliv} {b : Bool}
    (ho : t.transmitter.stallOwed = s.transmitter.stallOwed.set d b)
    (hs : ∀ e, e ≠ d → (t.session e).stall = (s.session e).stall)
    (hb : b = true → 1 ≤ (t.session d).stall.count ∧ (t.session d).stall.exhaustingDN.isSome = true ∧
      (t.session d).stall.withdrawn ≠ []) : t.StallNoticeLawful := by
  intro e he
  by_cases hde : e = d
  · subst hde
    exact hb (by simpa [ho] using he)
  · have hval : d.val ≠ e.val := fun k => hde (Fin.ext k.symm)
    rw [hs e hde]
    exact h e (by simpa [ho, Vector.getElem_set_ne _ _ hval] using he)

/-! ## Sources, lines and expiries -/

theorem State.SameSignals.of_only {src : Vector Source 32} {ts : Vector Timer 8} (h : t = (s.setSources src).setTimers ts) :
    s.SameSignals t := h ▸ ⟨rfl, rfl, rfl, fun _ => rfl⟩

theorem State.keepsSignals_takeExpiry (s : State) (e : TimerId × Tick) : s.KeepsSignals (s.takeExpiry e) := by
  obtain ⟨src, ts, h⟩ := s.takeOccurrence_only (timerSource e.1) e.2
  exact (State.SameSignals.of_only h).judged s

theorem State.keepsSignals_takeExpiries (s : State) (es : List (TimerId × Tick)) : s.KeepsSignals (s.takeExpiries es) := by
  induction es generalizing s with
  | nil => exact .refl s
  | cons e es ih => exact (s.keepsSignals_takeExpiry e).trans (ih _)

theorem State.keepsSignals_flushExpiries (s : State) : s.KeepsSignals s.flushExpiries :=
  (State.keepsSignals_takeExpiries (s.setDueExpiries []) _).after rfl rfl rfl rfl rfl

theorem State.keepsSignals_tickOnce (s : State) : s.KeepsSignals s.tickOnce :=
  s.keepsSignals_flushExpiries.trans
    ((State.keepsSignals_takeExpiries s.flushExpiries.advanceTick _).after rfl rfl rfl rfl rfl)

theorem State.keepsSignals_ticks (n : Nat) (s : State) : s.KeepsSignals (State.ticks n s) := by
  induction n generalizing s with
  | zero => exact .refl s
  | succ n ih => exact s.keepsSignals_tickOnce.trans (ih _)

theorem State.keepsSignals_tickFor (s : State) (k : TimerId) : s.KeepsSignals (s.tickFor k) := by
  have hexpiry : ∀ due e, s.flushExpiries.KeepsSignals ((s.flushExpiries.advanceTick.setDueExpiries due).takeExpiry e) :=
    fun due e => (State.keepsSignals_takeExpiry (s.flushExpiries.advanceTick.setDueExpiries due) e).after rfl rfl rfl rfl rfl
  exact s.keepsSignals_flushExpiries.trans (hexpiry _ _)

theorem State.keepsSignals_changeLevel (s : State) (n : LineId) (level : Bool) : s.KeepsSignals (s.changeLevel n level) := by
  obtain ⟨src, ts, h⟩ := (s.setLine n ((s.line n).accepted level)).takeReport_only n ((s.line n).sense.report level)
  have hline : s.SameSignals (s.setLine n ((s.line n).accepted level)) := ⟨rfl, rfl, rfl, fun _ => rfl⟩
  exact (hline.trans (.of_only h)).judged s

theorem State.keepsSignals_sampleLine (s : State) (levels : BitVec 24) (n : LineId) :
    s.KeepsSignals (s.sampleLine levels n) := by
  unfold State.sampleLine
  dsimp only
  split
  · exact .of_blocks rfl rfl rfl rfl rfl
  · split
    · exact .of_blocks rfl rfl rfl rfl rfl
    · exact s.keepsSignals_changeLevel n _

/-- Steps that keep the laws one by one keep them together. -/
theorem State.keepsSignals_foldl {α : Type} {f : State → α → State} (hf : ∀ (t : State) a, t.KeepsSignals (f t a)) (l : List α)
    (s : State) : s.KeepsSignals (l.foldl f s) := by
  induction l generalizing s with
  | nil => exact .refl s
  | cons a l ih => exact (hf s a).trans (ih _)

/-! ## Sources that come home -/

theorem State.sameSignals_withoutOffer (s : State) (d : Deliv) (dn : Byte) :
    s.SameSignals (s.setSession d ((s.session d).withoutOffer dn)) := .setSession rfl

theorem State.sameSignals_acceptOffer (s : State) (d : Deliv) (o : Offer) : s.SameSignals (s.acceptOffer d o) := by
  unfold State.acceptOffer
  dsimp only
  split
  · exact ((State.SameSignals.refl s).setSources _).trans (.setSession rfl)
  · exact (s.sameSignals_withoutOffer d o.dn).setSources _

theorem State.sameSignals_giveBack (s : State) (d : Deliv) (o : Offer) (n : Nat) : s.SameSignals (s.giveBack d o n) := by
  obtain ⟨src, h⟩ := ((s.setSession d ((s.session d).withoutOffer o.dn)).merge o).holdReturned_only o.source n
  unfold State.giveBack
  rw [h]
  exact (s.sameSignals_withoutOffer d o.dn).setSources src

theorem State.sameSignals_finish (s : State) (d : Deliv) (x : SourceId) : s.SameSignals (s.finish d x) := by
  refine State.SameSignals.setSources (.setSession ?_) _
  rfl

theorem State.sameSignals_finishTop (s : State) (d : Deliv) (x : SourceId) : s.SameSignals (s.finishTop d x) := by
  refine State.SameSignals.setSources (.setSession ?_) _
  rfl

/-- A taken CLOSE empties the stall record and its flag together and can only release the capture (R80, R150). -/
theorem State.keepsSignals_close (s : State) (d : Deliv) : s.KeepsSignals ((s.closeSession d).judged s) := by
  obtain ⟨src, h, -⟩ := s.closeSession_only d
  rw [h]
  refine ⟨fun ha => Alert.Fits.judge (a := s.alert) ha _ _ _, fun hc c hm => ?_, fun hn => ?_⟩
  · have hmem : c ∈ s.capture.filter fun c => c.owner != sessionNumber d := hm
    exact hc c (Option.mem_filter_iff.mp hmem).1
  · refine hn.set_one (d := d) (b := false) rfl (fun e he => ?_) nofun
    exact congrArg Session.stall ((State.session_setSession _ d e _).trans (if_neg he.symm))

/-- A stall writes the record that its notice carries (R53, R54, R187). -/
theorem State.keepsSignals_stall (s b : State) {d : Deliv} (p : Params) (dn : Byte) (ho : (s.session d).offers ≠ []) :
    s.KeepsSignals ((s.stallSession d p dn).judged b) := by
  obtain ⟨src, h⟩ := s.stallSession_only d p dn
  rw [h]
  refine ⟨fun ha => Alert.Fits.judge (a := s.alert) ha _ _ _, fun hc => hc, fun hn => ?_⟩
  refine hn.set_one (d := d) (b := true) rfl (fun e he => ?_) fun _ => ?_
  · exact congrArg Session.stall ((State.session_setSession _ d e _).trans (if_neg he.symm))
  · have hd : ((((s.setSources src).setSession d { s.session d with
        status := .stalled p, offers := []
        stall := (s.session d).stall.written dn ((s.session d).offers.map Offer.source) }).setStallOwed d true).judged
        b).session d = { s.session d with
          status := .stalled p, offers := []
          stall := (s.session d).stall.written dn ((s.session d).offers.map Offer.source) } :=
      (State.session_setSession _ d d _).trans (if_pos rfl)
    rw [hd]
    refine ⟨?_, rfl, by simpa [StallRecord.written] using ho⟩
    simp only [StallRecord.written, saturatingSucc_eq, Config.byteLimit]
    omega

end Sys2Proof.Machine
end

section
/-! Every request and every frame on LTX keeps the laws of the pin, of the capture and of the STALL notice (O57). -/

namespace Sys2Proof.Machine

/-! ## Requests -/

theorem onDelivery_keepsSignals {f : Deliv → List Byte → State → Answer} {s : State}
    (h : ∀ d payload, s.KeepsSignals (f d payload s).next) (σ : SessId) (payload : List Byte) :
    s.KeepsSignals (onDelivery f σ payload s).next := by
  unfold onDelivery
  split
  · exact h _ _
  · exact .refl s

/-- A read leaves a page unread, or releases the capture (R148). -/
theorem Capture.afterRead_unread {c c' : Capture} {p : Fin 4} (h : c.afterRead p = some c') :
    ∃ q : Fin 4, c'.pagesRead[q] = false := by
  unfold Capture.afterRead at h
  dsimp only at h
  split at h
  · cases h
  · rename_i hall
    cases h
    simpa using hall

/-- A capture with a page unread is put in the buffer, or none (R142, R148). -/
theorem State.keepsSignals_setCapture (s : State) {c : Option Capture}
    (hc : ∀ c' ∈ c, ∃ p : Fin 4, c'.pagesRead[p] = false) : s.KeepsSignals (s.setCapture c) :=
  ⟨id, fun _ => hc, id⟩

/-- Every owner's effect keeps the three laws (R97, R103, R144 to R150). -/
theorem Request.owner_keepsSignals (r : Request) (σ : SessId) (payload : List Byte) (s : State) :
    s.KeepsSignals (r.owner σ payload s).next := by
  have hite : ∀ {c : Prop} [Decidable c] {a b : Answer}, s.KeepsSignals a.next → s.KeepsSignals b.next →
      s.KeepsSignals (if c then a else b).next := fun ha hb => by
    split
    · exact ha
    · exact hb
  have hstatus : ∀ d st, s.KeepsSignals (s.setSession d { s.session d with status := st }) := fun d st =>
    State.SameSignals.keeps (.setSession rfl) rfl
  cases r
  case configSource =>
    simp only [Request.owner, ownConfigSource]
    split
    · exact .refl s
    · exact hite (((State.SameSignals.refl s).setSources _).judged s) (.refl s)
  case setAdmission =>
    simp only [Request.owner, ownSetAdmission]
    split
    · exact .refl s
    · rename_i x a _
      obtain ⟨src, ts, h⟩ := s.changeAdmission_only x a
      exact (State.SameSignals.of_only h).judged s
  case configLine | setTimebase =>
    simp only [Request.owner, ownConfigLine, ownSetTimebase]
    split
    · exact .refl s
    · exact hite (.of_blocks rfl rfl rfl rfl rfl) (.refl s)
  case configTimer =>
    simp only [Request.owner, ownConfigTimer]
    split
    · exact .refl s
    · exact hite (.of_blocks rfl rfl rfl rfl rfl) (hite (.of_blocks rfl rfl rfl rfl rfl) (.refl s))
  case startTimer | stopTimer | reset =>
    simp only [Request.owner, ownStartTimer, ownStopTimer, ownReset]
    split
    · exact .refl s
    · exact .of_blocks rfl rfl rfl rfl rfl
  case setAlert =>
    simp only [Request.owner, ownSetAlert]
    split
    · exact .refl s
    · exact ⟨fun ha => Alert.Fits.configure ha _ _, id, id⟩
  case querySource | queryTimer | querySession =>
    simp only [Request.owner, ownQuerySource, ownQueryTimer, ownQuerySession]
    split <;> exact .refl s
  case queryLines | readTime => exact .refl s
  case snapshot =>
    simp only [Request.owner, ownSnapshot]
    split
    · exact .refl s
    · refine s.keepsSignals_flushExpiries.trans (State.keepsSignals_setCapture _ ?_)
      rintro _ ⟨⟩
      exact ⟨0, rfl⟩
  case readCapture =>
    simp only [Request.owner, ownReadCapture]
    split
    · exact .refl s
    · split
      · exact .refl s
      · exact hite (s.keepsSignals_setCapture fun _ h => Capture.afterRead_unread h) (.refl s)
  case discardCapture =>
    simp only [Request.owner, ownDiscardCapture]
    split
    · exact .refl s
    · exact hite (s.keepsSignals_setCapture nofun) (.refl s)
  case openSession =>
    refine onDelivery_keepsSignals (fun d payload => ?_) σ payload
    dsimp only
    split
    · exact .refl s
    · split
      · exact hstatus d _
      all_goals exact .refl s
  case close =>
    refine onDelivery_keepsSignals (fun d payload => ?_) σ payload
    split
    · exact .refl s
    all_goals exact s.keepsSignals_close d
  case setSession =>
    refine onDelivery_keepsSignals (fun d payload => ?_) σ payload
    dsimp only
    split
    · exact .refl s
    · split
      · exact .refl s
      all_goals exact hite (.refl s) (hstatus d _)
  case resume =>
    refine onDelivery_keepsSignals (fun d payload => ?_) σ payload
    dsimp only
    split
    · exact .refl s
    · exact .refl s
    · exact hstatus d _
  case accept =>
    refine onDelivery_keepsSignals (fun d payload => ?_) σ payload
    dsimp only
    split
    · exact .refl s
    · split
      · exact .refl s
      · exact .refl s
      · split
        · exact .refl s
        · exact (s.sameSignals_acceptOffer d _).judged s
  case returnOffer =>
    refine onDelivery_keepsSignals (fun d payload => ?_) σ payload
    dsimp only
    split
    · exact .refl s
    · split
      · exact .refl s
      · exact .refl s
      · split
        · exact .refl s
        · exact (s.sameSignals_giveBack d _ _).judged s
  case done =>
    refine onDelivery_keepsSignals (fun d payload => ?_) σ payload
    dsimp only
    split
    · exact .refl s
    · split
      · exact .refl s
      all_goals exact hite ((s.sameSignals_finish d _).judged s) (.refl s)
  case doneTop =>
    refine onDelivery_keepsSignals (fun d payload => ?_) σ payload
    dsimp only
    split
    · exact .refl s
    all_goals
      split
      · exact .refl s
      · exact (s.sameSignals_finishTop d _).judged s

/-- What an execution can do: it changes nothing that the laws read, or it places its owner's answer (R174, R176). -/
theorem State.execute_cases (s : State) (owner : Owner) (slot : SlotId) (f : ReqFrame) :
    s.KeepsSignals (s.execute owner slot f) ∨ ∃ σ, s.execute owner slot f = (owner σ f.payload s).place slot σ f := by
  unfold State.execute
  split
  · dsimp only
    split
    · exact .inl (.of_blocks rfl rfl rfl rfl rfl)
    · unfold answerOf
      split
      · exact .inl (.of_blocks rfl rfl rfl rfl rfl)
      · exact .inr ⟨_, rfl⟩
  · exact .inl (.of_blocks rfl rfl rfl rfl rfl)

theorem State.keepsSignals_goodFrame {owner : Owner} (h : ∀ σ payload t, State.KeepsSignals t (owner σ payload t).next)
    (s : State) (f : ReqFrame) : s.KeepsSignals (s.goodFrame owner f) := by
  have hexecute : ∀ (t : State) slot, t.KeepsSignals (t.execute owner slot f) := fun t slot => by
    obtain hk | ⟨σ, e⟩ := t.execute_cases owner slot f
    · exact hk
    · rw [e]
      exact (h σ f.payload t).trans (.of_blocks rfl rfl rfl rfl rfl)
  unfold State.goodFrame
  dsimp only
  split
  · split
    · exact .of_blocks rfl rfl rfl rfl rfl
    · split
      · exact .of_blocks rfl rfl rfl rfl rfl
      · exact (hexecute _ _).after rfl rfl rfl rfl rfl
  · exact .refl s

theorem State.keepsSignals_request (s : State) (r : Request) (f : ReqFrame) : s.KeepsSignals (s.goodFrame r.owner f) :=
  s.keepsSignals_goodFrame r.owner_keepsSignals f

theorem State.keepsSignals_anyGoodFrame (s : State) (f : ReqFrame) : s.KeepsSignals (s.anyGoodFrame f) := by
  refine s.keepsSignals_goodFrame (fun σ payload t => ?_) f
  unfold ownerOfCode
  cases Request.ofCode f.type with
  | some r => exact r.owner_keepsSignals σ payload t
  | none => exact .refl t

/-! ## Characters -/

theorem State.keepsSignals_takeFault (s : State) : s.KeepsSignals s.takeFault := .of_blocks rfl rfl rfl rfl rfl

theorem State.keepsSignals_intoFrame (s : State) (f : Framing) : s.KeepsSignals (s.intoFrame f) :=
  .of_blocks rfl rfl rfl rfl rfl

theorem State.keepsSignals_takeCharacter (s : State) (v : Byte) : s.KeepsSignals (s.takeCharacter v) := by
  unfold State.takeCharacter
  split
  · split
    · exact s.keepsSignals_intoFrame _
    · exact .refl s
  · split
    · exact s.keepsSignals_intoFrame _
    · exact s.keepsSignals_takeFault
  · exact s.keepsSignals_intoFrame _
  · exact s.keepsSignals_intoFrame _
  · split <;> exact s.keepsSignals_intoFrame _
  · dsimp only
    split <;> exact s.keepsSignals_intoFrame _
  · exact s.keepsSignals_intoFrame _
  · split
    · exact s.keepsSignals_anyGoodFrame _
    · exact s.keepsSignals_takeFault

/-! ## Frames on LTX -/

/-- The start of a STALL frame empties the record and clears the flag together (R54, R187). -/
theorem State.keepsSignals_startStall (s : State) (d : Deliv) : s.KeepsSignals (s.startStall d) := by
  refine ⟨id, id, fun hn => hn.set_one (d := d) (b := false) rfl (fun e he => ?_) nofun⟩
  exact congrArg Session.stall ((State.session_setSession _ d e _).trans (if_neg he.symm))

/-- A new offer is judged, and a resend changes no source (R39, R97). -/
theorem State.keepsSignals_pollAnswer {s s' : State} {d : Deliv} {o : Offer} (h : s.pollAnswer d = some (o, s')) :
    s.KeepsSignals s' := by
  obtain ⟨-, ⟨q, -, -, rfl⟩ | ⟨x, -, -, -, rfl⟩⟩ := State.pollAnswer_cases h
  · exact State.SameSignals.keeps (.setSession rfl) rfl
  · have hclaim := (State.SameSignals.refl s).setSources (s.sources.set x ((s.source x).claimed d))
    refine (hclaim.trans (.setSession ?_)).judged s
    rfl

theorem State.keepsSignals_pickFrame (s : State) : s.KeepsSignals s.pickFrame := by
  unfold State.pickFrame
  split
  · exact .of_blocks rfl rfl rfl rfl rfl
  · split
    · exact .of_blocks rfl rfl rfl rfl rfl
    · split
      · exact .of_blocks rfl rfl rfl rfl rfl
      · split
        · exact s.keepsSignals_startStall _
        · obtain ⟨h, -⟩ | ⟨d, -, o, s', ha, h⟩ := s.poll_cases (pollOrder s.transmitter.rrPointer)
          · rw [h]
            exact .refl s
          · rw [h]
            exact (State.keepsSignals_pollAnswer ha).trans (.of_blocks rfl rfl rfl rfl rfl)

theorem State.keepsSignals_resetAll (s : State) (n : Option Instant) (c : Option Cause) : s.KeepsSignals (s.resetAll n c) :=
  .of_reset rfl rfl rfl fun d => by simp [State.resetAll, State.resetLines, State.resetLink, Transmitter.reset]

theorem State.keepsSignals_takeReset (s : State) (scope : Scope) : s.KeepsSignals (s.takeReset scope) := by
  cases scope with
  | full => exact s.keepsSignals_resetAll _ _
  | delivery =>
    simp only [State.takeReset, State.resetDelivery_eq]
    exact .of_reset rfl rfl rfl fun d => by simp [State.resetLink, Transmitter.reset]

theorem State.keepsSignals_releaseSlot (s : State) (slot : SlotId) : s.KeepsSignals (s.releaseSlot slot) :=
  .of_blocks rfl rfl rfl rfl rfl

theorem State.keepsSignals_frameGone (s : State) : s.KeepsSignals s.frameGone := .of_blocks rfl rfl rfl rfl rfl

theorem State.keepsSignals_replyEnded (s : State) (slot : SlotId) (starts : Bool) (order : EndOrder) :
    s.KeepsSignals (s.replyEnded slot starts order) := by
  unfold State.replyEnded
  split
  · exact ((s.keepsSignals_releaseSlot slot).trans (State.keepsSignals_takeReset _ _)).trans (State.keepsSignals_pickFrame _)
  · cases order
    · exact (s.keepsSignals_releaseSlot slot).trans (State.keepsSignals_pickFrame _)
    · exact s.keepsSignals_pickFrame.trans (State.keepsSignals_releaseSlot _ slot)

theorem State.keepsSignals_startAckDeadline (s : State) (d : Deliv) (dn : Byte) :
    s.KeepsSignals (s.startAckDeadline d dn) := by
  obtain ⟨v, h⟩ := s.startAckDeadline_only d dn
  rw [h]
  exact State.SameSignals.keeps (.setSession rfl) rfl

theorem State.keepsSignals_frameEnded (s : State) (kind : TxKind) (order : EndOrder) :
    s.KeepsSignals (s.frameEnded kind order) := by
  refine s.keepsSignals_frameGone.trans ?_
  cases kind with
  | reply slot starts => exact State.keepsSignals_replyEnded _ slot starts order
  | evt d dn => exact (State.keepsSignals_startAckDeadline _ d dn).trans (State.keepsSignals_pickFrame _)
  | hello | link | stall => exact State.keepsSignals_pickFrame _

end Sys2Proof.Machine
end

section
/-! Every command keeps the laws of the pin, of the capture and of the STALL notice (O57). -/

namespace Sys2Proof.Machine

/-! ## The clock, the lines and the supply -/

variable {s t : State}

/-- A law kept by the state that the command answers. -/
theorem State.KeepsSignals.of_next {u : State} (h : (Host.Outcome.next t : Host.Outcome State Fault Refusal) = .next u)
    (ht : s.KeepsSignals t) : s.KeepsSignals u := by
  cases h
  exact ht

/-- A command that does one thing under its condition and nothing otherwise. -/
theorem State.KeepsSignals.of_ite {p : Prop} [Decidable p] {u : State}
    (h : (if p then (.next u : Host.Outcome State Fault Refusal) else .next s) = .next t) (hu : s.KeepsSignals u) :
    s.KeepsSignals t := by
  split at h
  · exact .of_next h hu
  · exact .of_next h (.refl s)

theorem execAckDeadlineExpiry_keepsSignals {d : Deliv} {dn : Byte} (h : execAckDeadlineExpiry d dn s = .next t) :
    s.KeepsSignals t := by
  unfold execAckDeadlineExpiry at h
  split at h
  · rename_i p o due _ _ ha
    obtain ⟨ho, -⟩ := State.awaiting_eq_some ha
    have hoffers : (s.session d).offers ≠ [] := List.ne_nil_of_mem (List.mem_of_find?_eq_some ho)
    have hreach : s.KeepsSignals (s.reach due) := .of_blocks rfl rfl rfl rfl rfl
    dsimp only at h
    split at h
    · exact .of_next h (hreach.trans (State.SameSignals.keeps (.setSession rfl) rfl))
    · exact .of_next h (hreach.trans ((s.reach due).keepsSignals_stall _ p dn hoffers))
  · exact .of_next h (.refl s)

theorem execHoldExpiry_keepsSignals {x : SourceId} (h : execHoldExpiry x s = .next t) : s.KeepsSignals t := by
  unfold execHoldExpiry at h
  split at h
  · rename_i due _ _
    have hreach : s.SameSignals (s.reach due) := ⟨rfl, rfl, rfl, fun _ => rfl⟩
    exact .of_next h ((hreach.setSources _).judged _)
  · exact .of_next h (.refl s)

/-- The end of a gap leaves the pin at the condition (R102). -/
theorem execRenewalGapEnd_keepsSignals (h : execRenewalGapEnd s = .next t) : s.KeepsSignals t := by
  unfold execRenewalGapEnd at h
  split at h
  · exact .of_next h ⟨fun _ => Alert.fits_of_gap_none rfl rfl, id, id⟩
  · exact .of_next h (.refl s)

theorem execTimerExpiry_keepsSignals {k : TimerId} (h : execTimerExpiry k s = .next t) : s.KeepsSignals t := by
  unfold execTimerExpiry at h
  split at h
  · split at h
    · rename_i e _
      have htake : ∀ due, s.KeepsSignals ((s.setDueExpiries due).takeExpiry e) := fun due =>
        (State.keepsSignals_takeExpiry (s.setDueExpiries due) e).after rfl rfl rfl rfl rfl
      exact .of_next h (htake _)
    · exact .of_ite h ((s.keepsSignals_ticks _).trans (State.keepsSignals_tickFor _ k))
  · exact .of_next h (.refl s)

theorem State.keepsSignals_sampleInReset (s : State) (levels : BitVec 24) (n : LineId) :
    s.KeepsSignals (s.sampleInReset levels n) := .of_blocks rfl rfl rfl rfl rfl

theorem execLineSample_keepsSignals {levels : BitVec 24} (h : execLineSample levels s = .next t) : s.KeepsSignals t := by
  have hclock : s.KeepsSignals (s.setClock (s.clock + Config.samplePeriod)) := .of_blocks rfl rfl rfl rfl rfl
  unfold execLineSample at h
  dsimp only at h
  split at h
  · exact .of_next h (hclock.trans (State.keepsSignals_foldl (fun u n => u.keepsSignals_sampleLine levels n) _ _))
  · exact .of_next h (hclock.trans (State.keepsSignals_foldl (fun u n => u.keepsSignals_sampleInReset levels n) _ _))

theorem State.keepsSignals_heldInReset (s : State) (p : Phase) : s.KeepsSignals (s.heldInReset p) :=
  (s.keepsSignals_resetAll none none).trans (.of_blocks rfl rfl rfl rfl rfl)

theorem State.keepsSignals_endReset (s : State) (c : Cause) (br1 br0 : Bool) : s.KeepsSignals (s.endReset c br1 br0) :=
  (s.keepsSignals_resetAll s.firstTick (some c)).trans (.of_blocks rfl rfl rfl rfl rfl)

theorem execPowerOnResetEnd_keepsSignals {br1 br0 : Bool} (h : execPowerOnResetEnd br1 br0 s = .next t) :
    s.KeepsSignals t := by
  have hreach : ∀ due, s.KeepsSignals (s.reach due) := fun _ => .of_blocks rfl rfl rfl rfl rfl
  unfold execPowerOnResetEnd at h
  split at h
  · exact .of_next h ((hreach _).trans (State.keepsSignals_endReset _ _ _ _))
  · exact .of_next h (hreach _)
  all_goals exact .of_next h (.refl s)

theorem execRstnAssert_keepsSignals (h : execRstnAssert s = .next t) : s.KeepsSignals t := by
  unfold execRstnAssert at h
  split at h
  · exact .of_next h (s.keepsSignals_heldInReset _)
  · exact .of_next h (.of_blocks rfl rfl rfl rfl rfl)
  · exact .of_next h (.refl s)

theorem execRstnRelease_keepsSignals {br1 br0 : Bool} (h : execRstnRelease br1 br0 s = .next t) : s.KeepsSignals t := by
  unfold execRstnRelease at h
  split at h
  · exact .of_next h (s.keepsSignals_endReset _ _ _)
  · split at h
    · exact .of_next h (s.keepsSignals_endReset _ _ _)
    · exact .of_next h (.of_blocks rfl rfl rfl rfl rfl)
  all_goals exact .of_next h (.refl s)

theorem execCharacterCompleted_keepsSignals {v : Byte} {moment : CharacterMoment}
    (h : execCharacterCompleted v moment s = .next t) : s.KeepsSignals t := by
  unfold execCharacterCompleted at h
  split at h
  · split at h
    · exact .of_next h (.of_blocks rfl rfl rfl rfl rfl)
    · exact .of_next h (s.keepsSignals_takeCharacter v)
    · split at h
      · exact .of_next h (.refl s)
      · exact .of_next h s.keepsSignals_takeFault
  · exact .of_next h (.refl s)

/-! ## Every command -/

theorem exec_keepsSignals {c : Instr} (h : exec c s = .next t) : s.KeepsSignals t := by
  cases c with
  | configSource => exact .of_next h (s.keepsSignals_request .configSource _)
  | setAdmit => exact .of_next h (s.keepsSignals_request .setAdmission _)
  | configLine => exact .of_next h (s.keepsSignals_request .configLine _)
  | configTimer => exact .of_next h (s.keepsSignals_request .configTimer _)
  | startTimer => exact .of_next h (s.keepsSignals_request .startTimer _)
  | stopTimer => exact .of_next h (s.keepsSignals_request .stopTimer _)
  | setTimebase => exact .of_next h (s.keepsSignals_request .setTimebase _)
  | setAlert => exact .of_next h (s.keepsSignals_request .setAlert _)
  | reset => exact .of_next h (s.keepsSignals_request .reset _)
  | querySource => exact .of_next h (s.keepsSignals_request .querySource _)
  | queryLines => exact .of_next h (s.keepsSignals_request .queryLines _)
  | queryTimer => exact .of_next h (s.keepsSignals_request .queryTimer _)
  | readTime => exact .of_next h (s.keepsSignals_request .readTime _)
  | querySession => exact .of_next h (s.keepsSignals_request .querySession _)
  | snapshot => exact .of_next h (s.keepsSignals_request .snapshot _)
  | readCapture => exact .of_next h (s.keepsSignals_request .readCapture _)
  | discardCapture => exact .of_next h (s.keepsSignals_request .discardCapture _)
  | openSession => exact .of_next h (s.keepsSignals_request .openSession _)
  | close => exact .of_next h (s.keepsSignals_request .close _)
  | setSession => exact .of_next h (s.keepsSignals_request .setSession _)
  | resume => exact .of_next h (s.keepsSignals_request .resume _)
  | accept => exact .of_next h (s.keepsSignals_request .accept _)
  | returnOffer => exact .of_next h (s.keepsSignals_request .returnOffer _)
  | done => exact .of_next h (s.keepsSignals_request .done _)
  | doneTop => exact .of_next h (s.keepsSignals_request .doneTop _)
  | unknownType type sess tag payload => exact .of_next h (s.keepsSignals_anyGoodFrame _)
  | overrun sess tag =>
    simp only [exec, execOverrun] at h
    exact .of_ite h (.of_blocks rfl rfl rfl rfl rfl)
  | frameFault cause => cases cause <;> exact .of_ite h s.keepsSignals_takeFault
  | gapExceeded =>
    simp only [exec, execGapExceeded] at h
    split at h
    · exact .of_next h (.of_blocks rfl rfl rfl rfl rfl)
    · exact .of_next h (.refl s)
  | pick =>
    simp only [exec, execPick] at h
    exact .of_ite h s.keepsSignals_pickFrame
  | endOfFrame order =>
    simp only [exec, execEndOfFrame] at h
    split at h
    · exact .of_next h (s.keepsSignals_frameEnded _ order)
    · exact .of_next h (.refl s)
  | ackDeadlineExpiry d dn => exact execAckDeadlineExpiry_keepsSignals h
  | holdExpiry x => exact execHoldExpiry_keepsSignals h
  | renewalGapEnd => exact execRenewalGapEnd_keepsSignals h
  | tick => exact .of_ite h s.keepsSignals_tickOnce
  | timerExpiry k => exact execTimerExpiry_keepsSignals h
  | occurrence n level =>
    simp only [exec, execOccurrence] at h
    exact .of_ite h (s.keepsSignals_changeLevel n level)
  | assertion n =>
    simp only [exec, execAssertion] at h
    split at h
    · exact .of_ite h (s.keepsSignals_changeLevel n _)
    · exact .of_next h (.refl s)
  | deassertion n =>
    simp only [exec, execDeassertion] at h
    split at h
    · exact .of_ite h (s.keepsSignals_changeLevel n _)
    · exact .of_next h (.refl s)
  | powerOn => exact .of_next h (s.keepsSignals_heldInReset _)
  | powerOnResetEnd br1 br0 => exact execPowerOnResetEnd_keepsSignals h
  | rstnAssert => exact execRstnAssert_keepsSignals h
  | rstnRelease br1 br0 => exact execRstnRelease_keepsSignals h
  | lineSample levels => exact execLineSample_keepsSignals h
  | characterCompleted v moment => exact execCharacterCompleted_keepsSignals h

/-- Settles O57: a step runs the command at the front of the queue, which the laws do not read, and every command keeps each
law by itself. -/
theorem alertCaptureAndNoticeLawsKept : Obligations.AlertCaptureAndNoticeLawsKept := by
  intro s t h
  have hkeeps : s.KeepsSignals t := by
    unfold step at h
    split at h
    · exact .of_next h (.refl s)
    · exact (exec_keepsSignals h).after rfl rfl rfl rfl rfl
  exact ⟨hkeeps.alert, hkeeps.capture, hkeeps.stall⟩

end Sys2Proof.Machine
end

section
/-! Requests of the delivery sessions refused for the state of their session (O13), and STALE and NOT_IN_SERVICE (O15). -/

namespace Sys2Proof.Machine

/-- A delivery request that its owner refuses with the status `st` (R177): nothing but the answer changes. -/
theorem Request.exec_of_refused {s : State} {slot : SlotId} {r : Request} {d : Deliv} {tag : Byte} {payload : List Byte}
    {st : Status} (h : s.canTake (sessionNumber d) r.code tag slot) (hr : r.sessions = .delivery)
    (hl : payload.length = r.payloadLen) (ho : r.owner (sessionNumber d) payload s = .refuse st s) :
    exec (r.command (byteOf (sessionNumber d).val) tag payload) s =
      .next (s.answered slot (sessionNumber d) r.code tag st []) :=
  Request.exec_of_owner h (Request.allowedOn_sessionNumber hr d) hl ho

/-! ## Payloads with every field in its range (R176) -/

theorem readParams_of_inRange {r : Request} (hr : r = .openSession ∨ r = .setSession) {payload : List Byte}
    (hl : payload.length = 6) (h : r.outOfRange payload = false) : ∃ p, readParams payload = some p := by
  match payload, hl with
  | [b0, b1, b2, b3, b4, b5], _ =>
    rw [← Option.ne_none_iff_exists', ne_eq, readParams_eq_none r hr, h]
    exact Bool.false_ne_true

theorem readSource_of_inRange {payload : List Byte} (hl : payload.length = 1) (h : Request.done.outOfRange payload = false) :
    ∃ x, readSource payload = some x := by
  match payload, hl with
  | [b], _ =>
    rw [← Option.ne_none_iff_exists', ne_eq, readSource_eq_none]
    exact Bool.eq_false_iff.mp h

theorem readDN_of_length {payload : List Byte} (hl : payload.length = 1) : ∃ dn, readDN payload = some dn := by
  match payload, hl with
  | [b], _ => exact ⟨b, rfl⟩

/-! ## The state of the session (R57, R60 to R62, R77, R80, R84, R87) -/

/-- A CLOSED session takes no delivery request but OPEN. -/
theorem Request.owner_of_closed {r : Request} {d : Deliv} {payload : List Byte} {s : State} (hr : r.sessions = .delivery)
    (ho : r ≠ .openSession) (hl : payload.length = r.payloadLen) (hin : r.outOfRange payload = false)
    (hs : (s.session d).status = .closed) : r.owner (sessionNumber d) payload s = .refuse .notOpen s := by
  cases r
  case openSession => exact absurd rfl ho
  case close | resume | doneTop =>
    simp only [Request.owner, ownClose, ownResume, ownDoneTop, onDelivery, delivOf_sessionNumber, hs]
  case setSession =>
    obtain ⟨p, hp⟩ := readParams_of_inRange (.inr rfl) hl hin
    simp only [Request.owner, ownSetSession, onDelivery, delivOf_sessionNumber, hp, hs]
  case accept | returnOffer =>
    obtain ⟨dn, hdn⟩ := readDN_of_length hl
    simp only [Request.owner, ownAccept, ownReturn, onDelivery, delivOf_sessionNumber, hdn, hs]
  case done =>
    obtain ⟨x, hx⟩ := readSource_of_inRange hl hin
    simp only [Request.owner, ownDone, onDelivery, delivOf_sessionNumber, hx, hs]
  all_goals cases hr

/-- A session that is not CLOSED is not opened again. -/
theorem ownOpen_of_not_closed {d : Deliv} {payload : List Byte} {p : Params} {s : State}
    (hp : readParams payload = some p) (hs : (s.session d).status ≠ .closed) :
    ownOpen (sessionNumber d) payload s = .refuse .alreadyOpen s := by
  simp only [ownOpen, onDelivery, delivOf_sessionNumber, hp]
  split
  · contradiction
  all_goals rfl

/-- Settles O13: the payload is read, and then the state of the session decides. -/
theorem sessionStateRefusals : Obligations.SessionStateRefusals := by
  intro d tag payload slot s
  refine ⟨fun r ht hl hin hr ho hs => ?_, fun ht hl hin hs => ?_, fun p ht hs => ?_⟩
  · exact Request.exec_of_refused ht hr hl (Request.owner_of_closed hr ho hl hin hs)
  · obtain ⟨p, hp⟩ := readParams_of_inRange (.inl rfl) hl hin
    exact Request.exec_of_refused (r := .openSession) ht rfl hl (ownOpen_of_not_closed hp hs)
  · refine Request.exec_of_refused (r := .resume) ht rfl rfl ?_
    simp only [Request.owner, ownResume, onDelivery, delivOf_sessionNumber, hs]

/-! ## STALE (R55, R59, R60) -/

/-- No offer of the DN stands at the session for an answer to it: the session is STALLED, or ACTIVE without one. -/
def Session.StaleFor (v : Session) (dn : Byte) : Prop :=
  (∃ p, v.status = .stalled p) ∨ ∃ p, v.status = .active p ∧ v.offers.find? (fun o => o.dn == dn) = none

theorem ownAccept_of_stale {d : Deliv} {dn : Byte} {s : State} (h : (s.session d).StaleFor dn) :
    ownAccept (sessionNumber d) [dn] s = .refuse .stale s := by
  obtain ⟨p, hs⟩ | ⟨p, hs, hnone⟩ := h
  · simp only [ownAccept, onDelivery, delivOf_sessionNumber, readDN, hs]
  · simp only [ownAccept, onDelivery, delivOf_sessionNumber, readDN, hs, hnone]

theorem ownReturn_of_stale {d : Deliv} {dn : Byte} {s : State} (h : (s.session d).StaleFor dn) :
    ownReturn (sessionNumber d) [dn] s = .refuse .stale s := by
  obtain ⟨p, hs⟩ | ⟨p, hs, hnone⟩ := h
  · simp only [ownReturn, onDelivery, delivOf_sessionNumber, readDN, hs]
  · simp only [ownReturn, onDelivery, delivOf_sessionNumber, readDN, hs, hnone]

/-! ## NOT_IN_SERVICE (R61, R62) -/

theorem ownDone_of_not_inService {d : Deliv} {x : SourceId} {s : State} (hs : (s.session d).status ≠ .closed)
    (hx : ¬((s.source x).state = .inService ∧ (s.source x).holder = some d)) :
    ownDone (sessionNumber d) [byteOf x.val] s = .refuse .notInService s := by
  simp only [ownDone, onDelivery, delivOf_sessionNumber, readSource, fieldBelow_source]
  split
  · contradiction
  all_goals exact if_neg hx

theorem ownDoneTop_of_empty {d : Deliv} {s : State} (hs : (s.session d).status ≠ .closed)
    (he : (s.session d).inService = []) : ownDoneTop (sessionNumber d) [] s = .refuse .notInService s := by
  simp only [ownDoneTop, onDelivery, delivOf_sessionNumber, he, List.getLast?_nil]
  split
  · contradiction
  all_goals rfl

/-- Settles O15: an offer that is withdrawn or unknown is not found, nor a source in service elsewhere or not at all. -/
theorem staleAndNotInService : Obligations.StaleAndNotInService := by
  intro d tag dn slot s p
  refine ⟨fun h => ?_, fun h => ?_⟩
  · have hstale : (s.session d).StaleFor dn := by
      obtain hs | ⟨hs, hdn⟩ := h
      · exact .inl ⟨p, hs⟩
      · exact .inr ⟨p, hs, List.find?_eq_none.mpr fun o ho => by simpa using hdn o ho⟩
    exact ⟨fun ht => Request.exec_of_refused (r := .accept) ht rfl rfl (ownAccept_of_stale hstale),
      fun ht => Request.exec_of_refused (r := .returnOffer) ht rfl rfl (ownReturn_of_stale hstale)⟩
  · have hopen : (s.session d).status ≠ .closed := by
      obtain hs | hs := h <;> simp [hs]
    refine ⟨fun x ht hx => ?_, fun ht he => ?_⟩
    · exact Request.exec_of_refused (r := .done) ht rfl rfl (ownDone_of_not_inService hopen (not_and_or.mpr hx))
    · exact Request.exec_of_refused (r := .doneTop) ht rfl rfl (ownDoneTop_of_empty hopen he)

end Sys2Proof.Machine
end

section
/-! PICK takes replies and notices (O40), and END_OF_FRAME takes its effect (O42). -/

namespace Sys2Proof.Machine

/-! ## What a pick takes (R164) -/

/-- The oldest reply goes before every notice. -/
theorem State.pickFrame_eq_startReply {s : State} {r : Reply} {rest : List Reply} (h : s.transmitter.replyQueue = r :: rest) :
    s.pickFrame = s.startReply r rest := by
  simp only [State.pickFrame, h]

/-- With no reply HELLO goes first. -/
theorem State.pickFrame_eq_startHello {s : State} {c : Cause} (hr : s.transmitter.replyQueue = [])
    (h : s.transmitter.hello = some c) : s.pickFrame = s.startHello c := by
  simp only [State.pickFrame, hr, h]

/-- LINK goes after HELLO. -/
theorem State.pickFrame_eq_startLink {s : State} (hr : s.transmitter.replyQueue = []) (hh : s.transmitter.hello = none)
    (h : s.transmitter.linkOwed = true) : s.pickFrame = s.startLink := by
  simp only [State.pickFrame, hr, hh, h, if_true]

/-- The lowest session that owes a STALL is the first found. -/
theorem State.firstStall_eq_some {s : State} {d : Deliv} (h : s.transmitter.stallOwed[d] = true)
    (hlow : ∀ e : Deliv, e < d → s.transmitter.stallOwed[e] = false) : s.firstStall = some d := by
  unfold State.firstStall
  rw [List.find?_eq_some_iff_getElem]
  refine ⟨h, d.val, by simp, by simp, fun j hj => ?_⟩
  simpa using hlow ⟨j, by omega⟩ hj

/-- STALL goes after LINK. -/
theorem State.pickFrame_eq_startStall {s : State} {d : Deliv} (hr : s.transmitter.replyQueue = [])
    (hh : s.transmitter.hello = none) (hl : s.transmitter.linkOwed = false) (h : s.firstStall = some d) :
    s.pickFrame = s.startStall d := by
  simp [State.pickFrame, hr, hh, hl, h]

/-! ## The bytes of the notices (R162, R187) -/

/-- SESS and TAG of the frame last discarded, as LINK carries them (R162). -/
def discardedBytes : Option (Byte × Byte) → List Byte
  | some (sess, tag) => [sess, tag]
  | none => [0#8, 0#8]

theorem linkPayload_eq (v : Receiver) :
    linkPayload v = [byteOf v.overruns, byteOf v.frameFaults, flagByte v.lastDiscarded.isSome] ++
      discardedBytes v.lastDiscarded := by
  unfold linkPayload
  split
  · rename_i sess tag h
    rw [h]
    rfl
  · rename_i h
    rw [h]
    rfl

/-- Settles O40: the first of replies, HELLO, LINK and STALL that is there is started. -/
theorem pickTakesRepliesThenNotices : Obligations.PickTakesRepliesThenNotices := by
  intro s hp hf credit
  have hcredit : byteOf s.credit = credit := congrArg byteOf s.credit_eq_countP
  refine ⟨fun r rest h => ?_, fun hr => ⟨fun cause h => ?_, fun hh => ⟨fun h => ?_, fun hl d h hlow dn hdn => ?_⟩⟩⟩
  · rw [exec_pick hp hf, State.pickFrame_eq_startReply h, ← hcredit]
    rfl
  · rw [exec_pick hp hf, State.pickFrame_eq_startHello hr h, ← hcredit]
    rfl
  · rw [exec_pick hp hf, State.pickFrame_eq_startLink hr hh h, State.startLink, linkPayload_eq, ← hcredit]
    rfl
  · rw [exec_pick hp hf, State.pickFrame_eq_startStall hr hh hl (State.firstStall_eq_some h hlow), ← hcredit]
    have hpayload : stallPayload (s.session d).stall =
        [byteOf (s.session d).stall.count, dn, byteOf (s.session d).stall.withdrawn.length] ++
          (s.session d).stall.withdrawn.map fun x => byteOf x.val := by
      simp only [stallPayload, hdn, Option.getD_some]
    rw [← hpayload]
    rfl

/-! ## The end of a frame (R50, R160, R161, R166, R167) -/

theorem exec_endOfFrame {s : State} {f : TxFrame} (hp : s.phase = .running) (hf : s.transmitter.frame = some f)
    (order : EndOrder) : exec (.endOfFrame order) s = .next (s.frameEnded f.kind order) := by
  simp only [exec, execEndOfFrame, State.isRunning_iff.mpr hp, hf]

/-- The end of a reply that starts no reset frees its slot before the pick or after it (R161, R167). -/
theorem State.frameEnded_freeThenPick (s : State) (slot : SlotId) :
    s.frameEnded (.reply slot false) .freeThenPick = (s.frameGone.releaseSlot slot).pickFrame := rfl

theorem State.frameEnded_pickThenFree (s : State) (slot : SlotId) :
    s.frameEnded (.reply slot false) .pickThenFree = s.frameGone.pickFrame.releaseSlot slot := rfl

/-- An offer that no longer stands takes no deadline (R50). -/
theorem updateFirst_eq_self {p : Offer → Bool} {l : List Offer} (h : ∀ o ∈ l, p o = false) (f : Offer → Offer) :
    updateFirst p f l = l := by
  induction l with
  | nil => rfl
  | cons o l ih =>
    rw [updateFirst, h o List.mem_cons_self, ih fun q hq => h q (List.mem_cons_of_mem o hq)]
    rfl

theorem State.startAckDeadline_gone {s : State} {d : Deliv} {dn : Byte} (h : ∀ o ∈ (s.session d).offers, o.dn ≠ dn) :
    s.startAckDeadline d dn = s := by
  unfold State.startAckDeadline
  dsimp only
  split
  · rfl
  · rw [updateFirst_eq_self fun o ho => beq_false_of_ne (h o ho)]
    exact s.setSession_session d

/-- The offer that still stands takes its deadline from the end of its frame (R50). -/
theorem State.startAckDeadline_stands {s : State} {d : Deliv} {p : Params} (hp : (s.session d).params = some p)
    (hn : ((s.session d).offers.map Offer.dn).Nodup) (dn : Byte) :
    s.startAckDeadline d dn = s.setSession d { s.session d with
      offers := (s.session d).offers.map fun o =>
        if o.dn = dn then { o with ackDeadline := some (s.clock + 1000 * p.ackTimeout) } else o } := by
  simp only [State.startAckDeadline, hp, updateFirst_dn_eq_map hn, Config.microsPerMilli]

/-- Settles O42: LTX falls idle, the kind of the frame has its effect, and the pick is taken on what it leaves. -/
theorem endOfFrameTakesItsEffect : Obligations.EndOfFrameTakesItsEffect := by
  intro f s hp hf idle freed
  have hpick : ∀ {t : State}, t.phase = .running → t.transmitter.frame = none → .next t.pickFrame = exec .pick t :=
    fun h1 h2 => (exec_pick h1 h2).symm
  refine ⟨fun slot hk => ⟨?_, s.frameGone.pickFrame, exec_pick hp rfl, ?_⟩, fun order hk => ?_, fun order d dn hk => ?_⟩
  · rw [exec_endOfFrame hp hf, hk, State.frameEnded_freeThenPick]
    exact hpick hp rfl
  · rw [exec_endOfFrame hp hf, hk, State.frameEnded_pickThenFree]
    rfl
  · rw [exec_endOfFrame hp hf]
    obtain hk | hk | ⟨d, hk⟩ := hk
    all_goals
      rw [hk]
      exact hpick hp rfl
  · rw [exec_endOfFrame hp hf, hk]
    simp only [State.frameEnded]
    refine ⟨fun h => ?_, fun p h hn => ?_⟩
    · rw [State.startAckDeadline_gone (s := s.frameGone) h]
      exact hpick hp rfl
    · rw [State.startAckDeadline_stands (s := s.frameGone) h hn dn]
      exact hpick hp rfl

end Sys2Proof.Machine
end

section
/-! The delivery sessions opened, changed, resumed and queried: OPEN (O31), SET_SESSION and RESUME (O33), QUERY_SESSION
(O27). -/

namespace Sys2Proof.Machine

/-- A delivery request that its owner takes: the owner's contents and next state are the answer's (R175, R179). -/
theorem Request.exec_of_ok {s t : State} {slot : SlotId} {r : Request} {d : Deliv} {tag : Byte}
    {payload contents : List Byte} (h : s.canTake (sessionNumber d) r.code tag slot) (hr : r.sessions = .delivery)
    (hl : payload.length = r.payloadLen) (ho : r.owner (sessionNumber d) payload s = .ok contents t) :
    exec (r.command (byteOf (sessionNumber d).val) tag payload) s =
      .next (t.answered slot (sessionNumber d) r.code tag .ok contents) :=
  Request.exec_of_owner h (Request.allowedOn_sessionNumber hr d) hl ho

/-! ## OPEN (R77, R78) -/

theorem ownOpen_of_closed {d : Deliv} {p : Params} {s : State} (hp : p.Lawful) (hs : (s.session d).status = .closed) :
    ownOpen (sessionNumber d) p.payload s =
      .ok [(s.session d).nextDN] (s.setSession d { s.session d with status := .active p }) := by
  simp only [ownOpen, onDelivery, delivOf_sessionNumber, readParams_payload p hp, hs]

/-- Settles O31: the payload reads back the parameters, and a CLOSED session takes them. -/
theorem openTakes : Obligations.OpenTakes := by
  intro d p tag slot s ht hp hs
  exact Request.exec_of_ok (r := .openSession) ht rfl rfl (ownOpen_of_closed hp hs)

/-! ## SET_SESSION (R84) -/

/-- Mode and window are free where they stay, and in a session that holds no entry (R84). -/
theorem Session.shapeLocked_of_kept_or_empty {v : Session} {q p : Params}
    (h : (p.mode = q.mode ∧ p.window = q.window) ∨ (v.offers = [] ∧ v.inService = [])) : v.shapeLocked q p = false := by
  obtain ⟨hm, hw⟩ | ⟨ho, hi⟩ := h
  · simp [Session.shapeLocked, hm, hw]
  · simp [Session.shapeLocked, Session.load, ho, hi]

/-- SET_SESSION's answer where the shape is not locked: the session stays ACTIVE or STALLED, whichever it is (R84). -/
theorem ownSetSession_of_unlocked {d : Deliv} {q p : Params} {s : State} {status : Params → SessionStatus} (hp : p.Lawful)
    (hl : (s.session d).shapeLocked q p = false) (hst : status = .active ∨ status = .stalled)
    (hs : (s.session d).status = status q) :
    ownSetSession (sessionNumber d) p.payload s =
      .ok p.payload (s.setSession d { s.session d with status := status p }) := by
  obtain rfl | rfl := hst
  all_goals
    simp only [ownSetSession, onDelivery, delivOf_sessionNumber, readParams_payload p hp, hs, hl]
    rfl

/-! ## RESUME (R87) -/

theorem ownResume_of_stalled {d : Deliv} {q : Params} {s : State} (hs : (s.session d).status = .stalled q) :
    ownResume (sessionNumber d) [] s =
      .ok [byteOf (s.session d).inService.length] (s.setSession d { s.session d with status := .active q }) := by
  simp only [ownResume, onDelivery, delivOf_sessionNumber, hs]

/-- Settles O33: the lock of R84 does not hold, so SET_SESSION writes the parameters in the state the session has. -/
theorem setSessionAndResumeTake : Obligations.SetSessionAndResumeTake := by
  intro d q tag slot s
  refine ⟨fun p ht hp hfree => ?_, fun ht hs => ?_⟩
  · have hl := Session.shapeLocked_of_kept_or_empty hfree
    refine ⟨fun hs => ?_, fun hs => ?_⟩
    · exact Request.exec_of_ok (r := .setSession) ht rfl rfl (ownSetSession_of_unlocked hp hl (.inl rfl) hs)
    · exact Request.exec_of_ok (r := .setSession) ht rfl rfl (ownSetSession_of_unlocked hp hl (.inr rfl) hs)
  · exact Request.exec_of_ok (r := .resume) ht rfl rfl (ownResume_of_stalled hs)

/-! ## QUERY_SESSION (R89) -/

/-- The phase of an offer as QUERY_SESSION codes it: owed 2, AWAITING 1, SENDING 0 (R48, R89). -/
theorem Offer.phase_code (o : Offer) :
    o.phase.code = if o.sendOwed then 2#8 else if o.ackDeadline.isSome then 1#8 else 0#8 := by
  unfold Offer.phase
  split
  · rfl
  · split <;> rfl

/-- QUERY_SESSION may be sent on any session and answers with the record's contents. -/
theorem exec_querySession {d : Deliv} {σ : SessId} {tag : Byte} {slot : SlotId} {s : State}
    (ht : s.canTake σ 0x14#8 tag slot) :
    exec (.querySession (byteOf σ.val) tag [byteOf (d.val + 1)]) s =
      .next (s.answered slot σ 0x14#8 tag .ok (sessionContents s d)) := by
  refine Request.exec_of_owner (r := .querySession) (a := .ok (sessionContents s d) s) ht rfl rfl ?_
  simp only [Request.owner, ownQuerySession, readSession_byteOf]

/-- Settles O27: the status gives the state byte and the six parameters, and each offer its phase. -/
theorem querySessionAnswers : Obligations.QuerySessionAnswers := by
  intro d σ tag slot s ht v answers
  have hcontents : ∀ state params, v.status.code = state → paramsContents v.params = params → answers state params := by
    rintro state params rfl rfl
    simp only [answers, exec_querySession ht, sessionContents, Offer.phase_code, v]
  refine ⟨fun hs => ?_, fun p hs => ?_, fun p hs => ?_⟩
  all_goals exact hcontents _ _ (by rw [hs]; rfl) (by rw [Session.params, hs]; rfl)

end Sys2Proof.Machine
end

section
/-! Expiries taken one after the other, and the tick: TICK (O46). -/

namespace Sys2Proof.Machine

/-! ## Expiries (R97, R130, R132) -/

theorem timerSource_inj {j k : TimerId} : timerSource j = timerSource k ↔ j = k := by
  simp [timerSource, Fin.ext_iff]

section
variable (s : State) (e : TimerId × Tick) (es : List (TimerId × Tick))

/-- An expiry counts on the source of its timer (R130). -/
theorem State.expiryTaken_timerSource (k : TimerId) : (s.expiryTaken e).source (timerSource k) =
    if e.1 = k then (s.source (timerSource k)).occurrenceTaken e.2 else s.source (timerSource k) := by
  by_cases h : e.1 = k <;> simp [State.expiryTaken, timerSource_inj, h]

theorem State.expiryTaken_lineSource (n : LineId) : (s.expiryTaken e).source (lineSource n) = s.source (lineSource n) := by
  simp [State.expiryTaken, (lineSource_ne_timerSource n e.1).symm]

/-- Expiries write source records and the alert output alone (R97, R130). -/
theorem State.expiriesTaken_eq_blocks : s.expiriesTaken es =
    (s.setSources (s.expiriesTaken es).sources).setAlertBlock (s.expiriesTaken es).alert := by
  obtain ⟨src, a, h⟩ := s.takeExpiries_only es
  rw [← s.takeExpiries_eq es, h]
  rfl

@[simp] theorem State.expiriesTaken_timeUnit : (s.expiriesTaken es).timeUnit = s.timeUnit := by
  rw [s.expiriesTaken_eq_blocks es]
  rfl

@[simp] theorem State.expiriesTaken_phase : (s.expiriesTaken es).phase = s.phase := by
  rw [s.expiriesTaken_eq_blocks es]
  rfl

/-- The source of a line is that of no timer. -/
@[simp] theorem State.expiriesTaken_lineSource (n : LineId) :
    (s.expiriesTaken es).source (lineSource n) = s.source (lineSource n) := by
  induction es generalizing s with
  | nil => rfl
  | cons e es ih => exact (ih (s.expiryTaken e)).trans (s.expiryTaken_lineSource e n)

/-- Expiries leave the settings of the alert output (R98). -/
theorem State.expiriesTaken_settings : (s.expiriesTaken es).alert.enabled = s.alert.enabled ∧
    (s.expiriesTaken es).alert.mode = s.alert.mode := by
  induction es generalizing s with
  | nil => exact ⟨rfl, rfl⟩
  | cons e es ih =>
    obtain ⟨he, hm⟩ := ih (s.expiryTaken e)
    obtain ⟨he', hm'⟩ := s.alert.judge_settings s.clock s.sources (s.expiryTaken e).sources
    exact ⟨he.trans he', hm.trans hm'⟩
end

/-- Expiries of one tick count once on the source of each timer that expires (R130, R132). -/
theorem State.expiriesTaken_timerSource {ks : List TimerId} (hn : ks.Nodup) (s : State) (τ : Tick) (k : TimerId) :
    (s.expiriesTaken (ks.map fun j => (j, τ))).source (timerSource k) =
      if k ∈ ks then (s.source (timerSource k)).occurrenceTaken τ else s.source (timerSource k) := by
  induction ks generalizing s with
  | nil => rfl
  | cons j ks ih =>
    rw [List.nodup_cons] at hn
    have hstep := ih hn.2 (s.expiryTaken (j, τ))
    rw [s.expiryTaken_timerSource] at hstep
    refine hstep.trans ?_
    by_cases hjk : j = k
    · subst hjk
      simp [hn.1]
    · simp [hjk, Ne.symm hjk]

/-! ## The expiries that wait from the tick before (log entry 4) -/

theorem State.waitingTaken_timeUnit (s : State) : s.waitingTaken.timeUnit = { s.timeUnit with dueExpiries := [] } :=
  State.expiriesTaken_timeUnit _ _

@[simp] theorem State.waitingTaken_timer (s : State) (k : TimerId) : s.waitingTaken.timer k = s.timer k := by
  simp only [State.timer, State.waitingTaken_timeUnit]

@[simp] theorem State.waitingTaken_phase (s : State) : s.waitingTaken.phase = s.phase := State.expiriesTaken_phase _ _

theorem State.waitingTaken_lineSource (s : State) (n : LineId) :
    s.waitingTaken.source (lineSource n) = s.source (lineSource n) :=
  State.expiriesTaken_lineSource _ _ n

theorem State.waitingTaken_settings (s : State) :
    s.waitingTaken.alert.enabled = s.alert.enabled ∧ s.waitingTaken.alert.mode = s.alert.mode :=
  State.expiriesTaken_settings _ _

/-- With no expiry waiting there is nothing to take. -/
theorem State.waitingTaken_of_none {s : State} (h : s.timeUnit.dueExpiries = []) : s.waitingTaken = s := by
  have hsame : s.setDueExpiries s.timeUnit.dueExpiries = s := rfl
  rw [h] at hsame
  rw [State.waitingTaken, h]
  exact hsame

/-! ## The tick (R120, R121, R129, R131) -/

theorem Timer.ticked_eq (t : Timer) : t.ticked = t.stepped.1 := by rw [Timer.stepped_eq]

theorem Timer.expiresAtTick_eq (t : Timer) : t.expiresAtTick = t.stepped.2 := by rw [Timer.stepped_eq]

theorem State.expiringTimers_eq (s : State) : s.expiringTimers = s.nextToExpire := by
  simp only [State.expiringTimers, State.nextToExpire, Timer.expiresAtTick_eq]

theorem State.nextToExpire_waitingTaken (s : State) : s.waitingTaken.nextToExpire = s.nextToExpire := by
  simp only [State.nextToExpire, State.waitingTaken_timer]

theorem State.nextToExpire_nodup (s : State) : s.nextToExpire.Nodup := (List.nodup_finRange 8).filter _

theorem State.mem_nextToExpire {s : State} {k : TimerId} : k ∈ s.nextToExpire ↔ (s.timer k).stepped.2 = true := by
  simp [State.nextToExpire]

/-- A marked tick is that of the statements. -/
theorem State.advanceTick_eq {s : State} {due : Instant} (h : s.timeUnit.nextTick = some due) :
    s.advanceTick = s.tickMarked due := by
  simp only [State.advanceTick, State.tickMarked, h, Option.getD_some, Timer.ticked_eq, State.reach]

/-- The tick marked after the waiting expiries have been taken. -/
theorem State.flushExpiries_advanceTick {s : State} {due : Instant} (h : s.timeUnit.nextTick = some due) :
    s.flushExpiries.advanceTick = s.waitingTaken.tickMarked due := by
  rw [s.flushExpiries_eq]
  exact State.advanceTick_eq (s.waitingTaken_timeUnit ▸ h)

/-- The value that the expiries of a tick carry (R121, R130). -/
theorem State.flushExpiries_advanceTick_now (s : State) : s.flushExpiries.advanceTick.now = s.timeUnit.counter + 1 := by
  rw [s.flushExpiries_eq]
  exact congrArg (·.counter + 1) s.waitingTaken_timeUnit

theorem State.flushExpiries_expiringTimers (s : State) : s.flushExpiries.expiringTimers = s.nextToExpire := by
  rw [s.flushExpiries_eq, State.expiringTimers_eq, State.nextToExpire_waitingTaken]

/-- A whole tick takes the expiries of the tick one after the other (R132). -/
theorem State.tickOnce_eq (s : State) :
    s.tickOnce = s.flushExpiries.advanceTick.expiriesTaken (s.nextToExpire.map fun k => (k, s.timeUnit.counter + 1)) := by
  rw [State.tickOnce, State.takeExpiries_eq, s.flushExpiries_expiringTimers, s.flushExpiries_advanceTick_now]

theorem exec_tick {s : State} (hp : s.phase = .running) : exec .tick s = .next s.tickOnce :=
  if_pos (State.isRunning_iff.mpr hp)

/-- Settles O46: the waiting expiries are taken and the tick is marked; its expiries then write the sources of their timers
and the alert output alone. -/
theorem tickSteps : Obligations.TickSteps := by
  intro due s hp hdue before marked t
  have htick : s.tickOnce = t := by rw [State.tickOnce_eq, State.flushExpiries_advanceTick hdue]
  obtain ⟨hen, hmode⟩ := marked.expiriesTaken_settings (s.nextToExpire.map fun k => (k, s.timeUnit.counter + 1))
  obtain ⟨hen', hmode'⟩ := s.waitingTaken_settings
  refine ⟨?_, marked.expiriesTaken_eq_blocks _, fun k => ?_, fun n => ?_, hen.trans hen', hmode.trans hmode',
    State.waitingTaken_of_none, fun hnone hquiet => ?_⟩
  · rw [exec_tick hp, htick]
  · have hcount := marked.expiriesTaken_timerSource s.nextToExpire_nodup (s.timeUnit.counter + 1) k
    simp only [State.mem_nextToExpire] at hcount
    exact hcount
  · exact (marked.expiriesTaken_lineSource _ n).trans (s.waitingTaken_lineSource n)
  · have hempty : s.nextToExpire = [] := List.filter_eq_nil_iff.mpr fun k _ => by simp [hquiet k]
    have ht : t = marked := by simp only [t, hempty, List.map_nil, State.expiriesTaken, List.foldl_nil]
    have hbefore : before = s := State.waitingTaken_of_none hnone
    have hmarked : marked.alert = before.alert := rfl
    rw [ht, hmarked, hbefore]

end Sys2Proof.Machine
end

section
/-! TIMER_EXPIRY (O47): the expiry that waits, and the ticks that pass until the timer expires. -/

namespace Sys2Proof.Machine

/-! ## What a whole tick leaves of the timer unit (R129, R131) -/

theorem State.tickOnce_timeUnit (s : State) : s.tickOnce.timeUnit = s.flushExpiries.advanceTick.timeUnit := by
  rw [State.tickOnce_eq, State.expiriesTaken_timeUnit]

theorem State.tickOnce_timer (s : State) (k : TimerId) : s.tickOnce.timer k = (s.timer k).ticked := by
  rw [State.timer, s.tickOnce_timeUnit, s.flushExpiries_eq]
  simp [State.advanceTick]

/-- A whole tick leaves no expiry to wait. -/
theorem State.tickOnce_dueExpiries (s : State) : s.tickOnce.timeUnit.dueExpiries = [] := by
  rw [s.tickOnce_timeUnit, s.flushExpiries_eq]
  exact congrArg TimerUnit.dueExpiries s.waitingTaken_timeUnit

theorem State.tickOnce_phase (s : State) : s.tickOnce.phase = s.phase := by
  rw [State.tickOnce_eq, State.expiriesTaken_phase, s.flushExpiries_eq]
  exact s.waitingTaken_phase

/-- A tick with more remaining counts the timer down (R129). -/
theorem Timer.ticked_of_two_le {t : Timer} (hr : t.state = .running) (h : 2 ≤ t.remaining) :
    t.ticked = { t with remaining := t.remaining - 1 } := by
  have hn : ¬ t.remaining ≤ 1 := by omega
  simp [Timer.ticked, Timer.expiresAtTick, hr, hn]

/-! ## The command (R130, R131, R132) -/

section
variable {s : State} {k : TimerId} (hp : s.phase = .running)
include hp

/-- The first waiting expiry of the timer is taken. -/
theorem exec_timerExpiry_of_waiting {before after : List (TimerId × Tick)} {τ : Tick}
    (hd : s.timeUnit.dueExpiries = before ++ (k, τ) :: after) (hb : ∀ e ∈ before, e.1 ≠ k) :
    exec (.timerExpiry k) s = .next ((s.setDueExpiries (before ++ after)).expiryTaken (k, τ)) := by
  have hnot : ∀ e ∈ before, ¬ (e.1 == k) = true := fun e he => by simpa using hb e he
  have hfind : s.timeUnit.dueExpiries.find? (fun e => e.1 == k) = some (k, τ) := by
    rw [hd, List.find?_append, List.find?_eq_none.mpr hnot]
    simp
  have herase : s.timeUnit.dueExpiries.eraseP (fun e => e.1 == k) = before ++ after := by
    rw [hd, List.eraseP_append_right _ hnot]
    simp
  simp only [exec, execTimerExpiry, State.isRunning_iff.mpr hp, hfind, herase, State.takeExpiry_eq]
  rfl

/-- With no expiry of the timer waiting, the ticks of a RUNNING timer pass. -/
theorem exec_timerExpiry_of_none (hd : ∀ e ∈ s.timeUnit.dueExpiries, e.1 ≠ k) :
    exec (.timerExpiry k) s =
      if (s.timer k).state = .running then .next ((State.ticks ((s.timer k).remaining - 1) s).tickFor k) else .next s := by
  have hfind : s.timeUnit.dueExpiries.find? (fun e => e.1 == k) = none :=
    List.find?_eq_none.mpr fun e he => by simpa using hd e he
  simp only [exec, execTimerExpiry, State.isRunning_iff.mpr hp, hfind]
  rfl

/-- With more remaining than the next tick takes, a whole tick passes first (log entry 4). -/
theorem exec_timerExpiry_of_two_le (hd : ∀ e ∈ s.timeUnit.dueExpiries, e.1 ≠ k) (hr : (s.timer k).state = .running)
    (h : 2 ≤ (s.timer k).remaining) : exec (.timerExpiry k) s = exec (.timerExpiry k) s.tickOnce := by
  have htimer := (s.tickOnce_timer k).trans (Timer.ticked_of_two_le hr h)
  have hrun : (s.tickOnce.timer k).state = .running := by rw [htimer, ← hr]
  have hrem : (s.timer k).remaining - 1 = (s.tickOnce.timer k).remaining - 1 + 1 := by
    rw [htimer]
    dsimp only
    omega
  have hdue : ∀ e ∈ s.tickOnce.timeUnit.dueExpiries, e.1 ≠ k := by simp [s.tickOnce_dueExpiries]
  rw [exec_timerExpiry_of_none hp hd, if_pos hr,
    exec_timerExpiry_of_none (s.tickOnce_phase.trans hp) hdue, if_pos hrun, hrem]
  rfl
end

/-- The tick that expires timer `k` takes its expiry alone, and the others wait (R132). -/
theorem State.tickFor_eq {s : State} {due : Instant} (h : s.timeUnit.nextTick = some due) (k : TimerId) :
    s.tickFor k = ((s.waitingTaken.tickMarked due).setDueExpiries
      ((s.nextToExpire.filter (· ≠ k)).map fun j => (j, s.timeUnit.counter + 1))).expiryTaken
        (k, s.timeUnit.counter + 1) := by
  have hfilter : s.nextToExpire.filter (· != k) = s.nextToExpire.filter (· ≠ k) :=
    List.filter_congr fun j _ => by rw [Bool.eq_iff_iff]; simp
  simp only [State.tickFor, State.takeExpiry_eq, s.flushExpiries_expiringTimers, s.flushExpiries_advanceTick_now]
  rw [State.flushExpiries_advanceTick h, hfilter]

/-- Settles O47: what waits is taken first, and otherwise the ticks of a RUNNING timer pass one by one. -/
theorem timerExpires : Obligations.TimerExpires := by
  intro k s hp
  refine ⟨fun before after τ hd hb => exec_timerExpiry_of_waiting hp hd hb, fun hd hs => ?_,
    fun hd hr h => ⟨s.tickOnce, exec_tick hp, exec_timerExpiry_of_two_le hp hd hr h⟩, fun due hd hdue hr h => ?_⟩
  · rw [exec_timerExpiry_of_none hp hd, if_neg hs]
  · rw [exec_timerExpiry_of_none hp hd, if_pos hr, h]
    exact congrArg Host.Outcome.next (State.tickFor_eq hdue k)

end Sys2Proof.Machine
end

section
/-! SET_ALERT (O22): what it makes of the alert output, row by row of the table of R103. -/

namespace Sys2Proof.Machine

/-! ## The table of R103 -/

/-- The settings are the new ones (R99). -/
theorem Alert.configure_settings (a : Alert) (enabled : Bool) (mode : AlertMode) (u : Bool) :
    (a.configure enabled mode u).enabled = enabled ∧ (a.configure enabled mode u).mode = mode := by
  unfold Alert.configure
  split
  · assumption
  · split
    · exact ⟨rfl, rfl⟩
    · exact ⟨rfl, rfl⟩
    · split
      · exact ⟨rfl, rfl⟩
      · exact ⟨rfl, rfl⟩

section
variable {a : Alert} {enabled : Bool} {mode : AlertMode} (u : Bool)

/-- The settings as they stand change nothing. -/
theorem Alert.configure_same (he : a.enabled = enabled) (hm : a.mode = mode) : a.configure enabled mode u = a :=
  if_pos ⟨he, hm⟩

/-- A change that leaves the alert disabled lowers the pin. -/
theorem Alert.configure_disabled (h : ¬(a.enabled = false ∧ a.mode = mode)) :
    a.configure false mode u = { enabled := false, mode := mode, pin := false, gap := none } := by
  rw [Alert.configure, if_neg h]

/-- Enabling sets the pin to the urgent condition. -/
theorem Alert.configure_enabling (h : a.enabled = false) :
    a.configure true mode u = { enabled := true, mode := mode, pin := u, gap := none } := by
  simp [Alert.configure, h]

/-- A change of mode outside a gap leaves the pin. -/
theorem Alert.configure_mode_of_no_gap (he : a.enabled = true) (hm : a.mode ≠ mode) (hg : a.gap = none) :
    a.configure true mode u = { enabled := true, mode := mode, pin := a.pin, gap := none } := by
  simp [Alert.configure, he, hm, hg]

/-- A change of mode gives up a gap that runs, and the pin follows the urgent condition. -/
theorem Alert.configure_mode_of_gap (he : a.enabled = true) (hm : a.mode ≠ mode) (hg : a.gap ≠ none) :
    a.configure true mode u = { enabled := true, mode := mode, pin := u, gap := none } := by
  simp [Alert.configure, he, hm, Option.isSome_iff_ne_none.mpr hg]
end

/-! ## The request (R99) -/

theorem ownSetAlert_codes (σ : SessId) (enabled : Bool) (mode : AlertMode) (s : State) :
    ownSetAlert σ [flagByte enabled, mode.code] s =
      .ok [flagByte enabled, mode.code, flagByte (urgent s.sources),
          flagByte (s.alert.configure enabled mode (urgent s.sources)).pin]
        (s.setAlertBlock (s.alert.configure enabled mode (urgent s.sources))) := by
  obtain ⟨he, hm⟩ := s.alert.configure_settings enabled mode (urgent s.sources)
  simp only [ownSetAlert, readSetAlert, flagField_flagByte, alertModeField_code, he, hm]

/-- Settles O22: the owner writes what the table of R103 makes of the alert output, and each row is one equation of it. -/
theorem setAlertTakes : Obligations.SetAlertTakes := by
  intro enabled mode tag slot s ht a u leaves
  have hl : ∀ a', a.configure enabled mode u = a' → leaves a' := by
    rintro a' rfl
    exact Request.exec_of_owner (r := .setAlert) (σ := 0) ht rfl rfl (ownSetAlert_codes 0 enabled mode s)
  refine ⟨fun h he => hl _ ?_, fun h he => hl _ ?_, fun _ he hm => hl _ ?_, fun h he hm hm' hg => hl _ ?_,
    fun h he hm hm' hg => hl _ ?_, fun h he hm hm' hg => hl _ ?_, fun he hm => hl _ (Alert.configure_same u he hm)⟩
  · subst he
    exact Alert.configure_enabling u h
  · subst he
    exact Alert.configure_disabled u (by simp [h])
  · subst he
    exact Alert.configure_disabled u (by simp [hm])
  · subst he hm'
    exact Alert.configure_mode_of_no_gap u h (by simp [hm]) hg
  · subst he hm'
    exact Alert.configure_mode_of_no_gap u h (by simp [hm]) hg
  · subst he hm'
    exact Alert.configure_mode_of_gap u h (by simp [hm]) hg

end Sys2Proof.Machine
end

section
/-! A line configured, and lines and timers queried: CONFIG_LINE (O18), QUERY_LINES and QUERY_TIMER (O25). -/

namespace Sys2Proof.Machine

/-! ## CONFIG_LINE (R114, R115) -/

/-- CONFIG_LINE of a line whose source is IDLE is taken. -/
theorem ownConfigLine_of_idle {n : LineId} {s : State} (hs : (s.source (lineSource n)).state = .idle) (σ : SessId)
    (e : Sense) (f : Fin 8) :
    ownConfigLine σ [byteOf n.val, e.code, byteOf f.val] s =
      .ok [byteOf n.val, flagByte (s.line n).raw]
        (s.setLine n { s.line n with
          sense := e, filter := f.val, filtered := (s.line n).raw, runCount := 0 }) := by
  simp only [ownConfigLine, readConfigLine_codes, if_pos hs]

/-- Settles O18: the payload reads back the three fields, and the owner writes the line's record alone. -/
theorem configLineTakes : Obligations.ConfigLineTakes := by
  intro n e f tag slot s ht hs
  exact Request.exec_of_owner (r := .configLine) (σ := 0) ht rfl rfl (ownConfigLine_of_idle hs 0 e f)

/-! ## Flags packed in bytes (R116, R125) -/

/-- Doubling a byte and adding a flag moves every bit up by one place and puts the flag in the lowest. -/
theorem getLsbD_double_add_flagByte (x : Byte) (b : Bool) {i : Nat} (hi : i < 8) :
    (x * 2 + flagByte b).getLsbD i = if i = 0 then b else x.getLsbD (i - 1) := by
  have hsum : (x * 2 + flagByte b).toNat = (2 * x.toNat + b.toNat) % 2 ^ 8 := by
    cases b <;> simp [flagByte, BitVec.toNat_add, BitVec.toNat_mul, Nat.mul_comm]
  have hb := b.toNat_lt
  rw [BitVec.getLsbD, hsum, Nat.testBit_mod_two_pow, decide_eq_true hi, Bool.true_and]
  cases i with
  | zero => cases b <;> simp [Nat.add_mod]
  | succ i =>
    have hhalf : (2 * x.toNat + b.toNat) / 2 = x.toNat := by omega
    rw [Nat.testBit_succ, hhalf]
    rfl

/-- Bit `i` of a packed byte is flag `i`. -/
theorem packBits_getLsbD (bits : List Bool) {i : Nat} (hi : i < 8) : (packBits bits).getLsbD i = bits.getD i false := by
  induction bits generalizing i with
  | nil => simp [packBits]
  | cons b bits ih =>
    refine (getLsbD_double_add_flagByte (packBits bits) b hi).trans ?_
    cases i with
    | zero => rfl
    | succ i => exact ih (by omega)

/-! ## QUERY_LINES (R116) -/

/-- One field of QUERY_LINES: eight flags in each of three bytes. -/
def levelField (bits : List Bool) : List Byte :=
  [packBits (bits.take 8), packBits ((bits.drop 8).take 8), packBits (bits.drop 16)]

theorem linesContents_eq (s : State) :
    linesContents s = levelField ((List.finRange 24).map fun n => (s.line n).filtered) ++
      levelField ((List.finRange 24).map fun n => (s.line n).raw) := rfl

/-- Flag `i` of a field stands in byte `i` div 8, bit `i` mod 8. -/
theorem levelField_getLsbD (bits : List Bool) {i : Nat} (hi : i < 24) :
    ((levelField bits).getD (i / 8) 0#8).getLsbD (i % 8) = bits.getD i false := by
  have hr : i % 8 < 8 := Nat.mod_lt i (by decide)
  have hq : i / 8 = 0 ∨ i / 8 = 1 ∨ i / 8 = 2 := by omega
  conv_rhs => rw [← Nat.div_add_mod i 8]
  generalize i % 8 = r at hr ⊢
  obtain hq | hq | hq := hq
  all_goals
    rw [hq]
    refine (packBits_getLsbD _ hr).trans ?_
    simp [List.getD_eq_getElem?_getD, hr]

theorem getD_map_finRange {m : Nat} (f : Fin m → Bool) (n : Fin m) : ((List.finRange m).map f).getD n.val false = f n := by
  simp

/-- QUERY_LINES carries the filtered level of each line in its first three bytes and the raw level in its last three. -/
theorem linesContents_getLsbD (s : State) (n : LineId) :
    ((linesContents s).getD (n.val / 8) 0#8).getLsbD (n.val % 8) = (s.line n).filtered ∧
      ((linesContents s).getD (3 + n.val / 8) 0#8).getLsbD (n.val % 8) = (s.line n).raw := by
  have hq : n.val / 8 < 3 := by omega
  rw [linesContents_eq]
  refine ⟨?_, ?_⟩
  · rw [List.getD_append _ _ _ _ hq, levelField_getLsbD _ n.isLt, getD_map_finRange]
  · rw [List.getD_append_right _ _ _ _ (Nat.le_add_right 3 _)]
    have hsub : 3 + n.val / 8 - (levelField ((List.finRange 24).map fun n => (s.line n).filtered)).length = n.val / 8 :=
      Nat.add_sub_cancel_left ..
    rw [hsub, levelField_getLsbD _ n.isLt, getD_map_finRange]

/-- Settles O25: both owners answer with contents alone, and each flag of QUERY_LINES stands in its place. -/
theorem lineAndTimerQueriesAnswer : Obligations.LineAndTimerQueriesAnswer := by
  intro σ tag slot s
  refine ⟨fun ht => ⟨linesContents s, rfl, ?_, linesContents_getLsbD s⟩, fun k ht => ?_⟩
  · exact Request.exec_of_owner (r := .queryLines) ht rfl rfl rfl
  · refine Request.exec_of_owner (r := .queryTimer) (a := .ok (timerContents s k) s) ht rfl rfl ?_
    simp only [Request.owner, ownQueryTimer, readTimer, fieldBelow_timer]

end Sys2Proof.Machine
end

section
/-! The laws of one line record and of one timer record, and the operations that keep them (O58). -/

namespace Sys2Proof.Machine

/-! ## One line record (R105) -/

/-- The law of one line record (R105). -/
def Line.Lawful (l : Line) : Prop := l.runCount ≤ l.filter ∧ l.filter ≤ 7

theorem State.linesLawful_iff (s : State) : s.LinesLawful ↔ ∀ n, (s.line n).Lawful := Iff.rfl

theorem Line.lawful_of_no_run {l : Line} (hf : l.filter ≤ 7) (hr : l.runCount = 0) : l.Lawful :=
  ⟨hr ▸ Nat.zero_le _, hf⟩

theorem Line.reset_lawful (raw : Bool) : (Line.reset raw).Lawful := Line.lawful_of_no_run (Nat.zero_le 7) rfl

/-- A run grows only while it is shorter than the filter (R107). -/
theorem Line.Lawful.sampledAt {l : Line} (h : l.Lawful) (level : Bool) : (l.sampledAt level).Lawful := by
  obtain ⟨-, hf⟩ := h
  unfold Line.sampledAt
  split
  · exact Line.lawful_of_no_run hf rfl
  · split
    · rename_i hr
      exact ⟨hr, hf⟩
    · exact Line.lawful_of_no_run hf rfl

/-- The filter that CONFIG_LINE reads is in its range (R114). -/
theorem readConfigLine_filter {payload : List Byte} {a : ConfigLineArgs} (h : readConfigLine payload = some a) :
    a.filter ≤ 7 := by
  unfold readConfigLine at h
  split at h
  · split at h
    · rename_i f _ _ _
      cases h
      exact Nat.le_of_lt_succ f.isLt
    · cases h
  · cases h

/-! ## One timer record (R126, R127) -/

section
variable {t : Timer} (h : t.Lawful)
include h

/-- A load takes a period in its range, so a timer that runs has time remaining (R128). -/
theorem Timer.Lawful.restarted : t.restarted.Lawful := by
  obtain ⟨h1, h2, h3, -, -, -⟩ := h
  have hload : 1 ≤ t.pendingPeriod.getD t.period ∧ t.pendingPeriod.getD t.period ≤ 65535 := by
    cases hp : t.pendingPeriod with
    | none => exact ⟨h1, h2⟩
    | some p => exact h3 p hp
  exact ⟨hload.1, hload.2, nofun, hload.2, fun _ => hload.1, nofun⟩

/-- A restart under a condition, as counted occurrences make it (R133). -/
theorem Timer.Lawful.restarted_if (p : Prop) [Decidable p] : (if p then t.restarted else t).Lawful := by
  split
  · exact h.restarted
  · exact h

theorem Timer.Lawful.stopped : { t with state := .stopped }.Lawful := by
  obtain ⟨h1, h2, h3, h4, -, -⟩ := h
  exact ⟨h1, h2, h3, h4, nofun, nofun⟩

/-- What a tick makes of a timer, by its state and its mode (R129, R131). -/
theorem Timer.Lawful.stepped : t.stepped.1.Lawful := by
  have hre := h.restarted
  have ⟨h1, h2, h3, h4, _, _⟩ := h
  unfold Timer.stepped
  split
  · exact h
  · rename_i hr
    have hr : t.state = .running := not_not.mp hr
    split
    · exact ⟨h1, h2, h3, by dsimp only; omega, fun _ => by dsimp only; omega, fun hw => nomatch hr.symm.trans hw⟩
    · split
      · exact ⟨h1, h2, h3, Nat.zero_le _, nofun, nofun⟩
      · exact hre
      · rename_i hm
        exact ⟨h1, h2, h3, Nat.zero_le _, nofun, fun _ => ⟨hm, rfl⟩⟩

/-- The period of CONFIG_TIMER on a timer at work is kept for its next load (R137). -/
theorem Timer.Lawful.setPending {p : Nat} (hp : 1 ≤ p ∧ p ≤ 65535) : { t with pendingPeriod := some p }.Lawful := by
  obtain ⟨h1, h2, -, h4, h5, h6⟩ := h
  refine ⟨h1, h2, fun q hq => ?_, h4, h5, h6⟩
  cases hq
  exact hp

/-- CONFIG_TIMER on a STOPPED timer (R137). -/
theorem Timer.Lawful.configured (hs : t.state = .stopped) (m : TimerMode) {p : Nat} (w : LineId)
    (hp : 1 ≤ p ∧ p ≤ 65535) :
    { t with mode := m, period := p, watched := w, pendingPeriod := none }.Lawful := by
  obtain ⟨-, -, -, h4, -, -⟩ := h
  refine ⟨hp.1, hp.2, nofun, h4, ?_, ?_⟩ <;> simp [hs]
end

theorem Timer.reset_lawful : Timer.reset.Lawful := by decide

/-- The period that CONFIG_TIMER reads is in its range (R137). -/
theorem readConfigTimer_period {payload : List Byte} {a : ConfigTimerArgs} (h : readConfigTimer payload = some a) :
    1 ≤ a.period ∧ a.period ≤ 65535 := by
  unfold readConfigTimer at h
  split at h
  · rename_i b0 b1 b2 b3 b4
    split at h
    · split at h
      · cases h
      · rename_i hz
        cases h
        have := b2.isLt
        have := b3.isLt
        simp only [twoBytes] at hz ⊢
        omega
    · cases h
  · cases h

/-! ## The records of a state together -/

/-- Each line record and each timer record of `t` is lawful if that of `s` is. -/
structure State.KeepsInputs (s t : State) : Prop where
  line : ∀ n, (s.line n).Lawful → (t.line n).Lawful
  timer : ∀ k, (s.timer k).Lawful → (t.timer k).Lawful

section
variable {s t u : State}

theorem State.KeepsInputs.refl (s : State) : s.KeepsInputs s := ⟨fun _ => id, fun _ => id⟩

theorem State.KeepsInputs.trans (h : s.KeepsInputs t) (h' : t.KeepsInputs u) : s.KeepsInputs u :=
  ⟨fun n => h'.line n ∘ h.line n, fun k => h'.timer k ∘ h.timer k⟩

/-- A change of the timer records alone. -/
theorem State.KeepsInputs.of_timer (hl : t.lines = s.lines) (ht : ∀ k, (s.timer k).Lawful → (t.timer k).Lawful) :
    s.KeepsInputs t :=
  ⟨fun n => by simp only [State.line, hl, imp_self], ht⟩

/-- A change of blocks that the laws do not read. -/
theorem State.KeepsInputs.of_blocks (hl : t.lines = s.lines) (ht : t.timeUnit.timers = s.timeUnit.timers) :
    s.KeepsInputs t :=
  .of_timer hl fun k => by simp only [State.timer, ht, imp_self]

/-- What is done to other blocks before a change that keeps the laws. -/
theorem State.KeepsInputs.after (h : t.KeepsInputs u) (hl : t.lines = s.lines)
    (ht : t.timeUnit.timers = s.timeUnit.timers) : s.KeepsInputs u := (State.KeepsInputs.of_blocks hl ht).trans h

theorem State.KeepsInputs.setAlertBlock (h : s.KeepsInputs t) (a : Alert) : s.KeepsInputs (t.setAlertBlock a) :=
  ⟨h.line, h.timer⟩

/-- Steps that keep the laws one by one keep them together. -/
theorem State.KeepsInputs.foldl {α : Type} {f : State → α → State} (hf : ∀ (t : State) a, t.KeepsInputs (f t a))
    (l : List α) (s : State) : s.KeepsInputs (l.foldl f s) := by
  induction l generalizing s with
  | nil => exact .refl s
  | cons a l ih => exact (hf s a).trans (ih _)
end

variable (s : State)

theorem State.keepsInputs_setLine {n : LineId} {l : Line} (h : (s.line n).Lawful → l.Lawful) :
    s.KeepsInputs (s.setLine n l) := by
  refine ⟨fun m hm => ?_, fun _ => id⟩
  rw [State.line_setLine]
  split
  · rename_i hnm
    exact h (hnm ▸ hm)
  · exact hm

theorem State.keepsInputs_setTimer {k : TimerId} {t : Timer} (h : (s.timer k).Lawful → t.Lawful) :
    s.KeepsInputs (s.setTimer k t) := by
  refine .of_timer rfl fun j hj => ?_
  rw [State.timer_setTimer]
  split
  · rename_i hkj
    exact h (hkj ▸ hj)
  · exact hj

/-- Counted occurrences restart timers or leave them (R133). -/
theorem State.keepsInputs_restartTimers (hears : TimerId → Bool) :
    s.KeepsInputs (s.setTimers (Vector.ofFn fun k => (s.timer k).restartedFor (hears k))) := by
  refine .of_timer rfl fun k h => ?_
  have htimer : (s.setTimers (Vector.ofFn fun k => (s.timer k).restartedFor (hears k))).timer k =
      (s.timer k).restartedFor (hears k) := by simp [State.timer]
  exact htimer ▸ h.restarted_if _

/-- A line's new record with its report, which may restart timers (R109, R133). -/
theorem State.keepsInputs_reported {n : LineId} {l : Line} (h : (s.line n).Lawful → l.Lawful) (report : Report)
    (a : Alert) : s.KeepsInputs (s.reported n l report a) := by
  refine ⟨(s.keepsInputs_setLine h).line, fun k hk => ?_⟩
  rw [State.timer_reported]
  exact hk.restarted_if _

/-- The change of a filtered level ends the run (R107). -/
theorem State.keepsInputs_changeLevel (n : LineId) (level : Bool) : s.KeepsInputs (s.changeLevel n level) := by
  rw [State.changeLevel_eq, State.levelTaken_eq_reported]
  refine s.keepsInputs_reported (fun h => ?_) _ _
  exact ⟨Nat.zero_le _, h.2⟩

theorem State.keepsInputs_sampleLine (levels : BitVec 24) (n : LineId) : s.KeepsInputs (s.sampleLine levels n) := by
  obtain ⟨a, -, -, -, e⟩ := s.sampleLine_eq_reported levels n
  rw [e]
  exact s.keepsInputs_reported (fun h => h.sampledAt _) _ _

/-- A sample in reset leaves run count and filter (R117). -/
theorem State.keepsInputs_sampleInReset (levels : BitVec 24) (n : LineId) : s.KeepsInputs (s.sampleInReset levels n) :=
  s.keepsInputs_setLine id

/-- SET_ADMIT may count an occurrence (R12, R133). -/
theorem State.keepsInputs_changeAdmission (x : SourceId) (a : Admission) : s.KeepsInputs (s.changeAdmission x a) := by
  obtain ⟨-, -, e⟩ | ⟨-, -, e⟩ | ⟨-, -, e⟩ | ⟨-, -, -, -, e⟩ := s.changeAdmission_cases x a
  all_goals rw [e]
  · exact .refl s
  · exact .of_blocks rfl rfl
  · exact .of_blocks rfl rfl
  · rw [State.restartGaps_eq_restartedFor]
    exact (State.keepsInputs_restartTimers _ _).after rfl rfl

/-! ## Expiries and ticks -/

/-- The expiries write sources and the alert output alone (R97, R130). -/
theorem State.keepsInputs_takeExpiries (es : List (TimerId × Tick)) : s.KeepsInputs (s.takeExpiries es) := by
  obtain ⟨src, a, e⟩ := s.takeExpiries_only es
  rw [e]
  exact .of_blocks rfl rfl

theorem State.keepsInputs_takeExpiry (due : List (TimerId × Tick)) (e : TimerId × Tick) :
    s.KeepsInputs ((s.setDueExpiries due).takeExpiry e) := by
  obtain ⟨src, a, h⟩ := (s.setDueExpiries due).takeExpiry_only e
  rw [h]
  exact .of_blocks rfl rfl

theorem State.keepsInputs_flushExpiries : s.KeepsInputs s.flushExpiries :=
  (State.keepsInputs_takeExpiries (s.setDueExpiries []) _).after rfl rfl

theorem State.keepsInputs_advanceTick : s.KeepsInputs s.advanceTick := by
  refine .of_timer rfl fun k h => ?_
  have htimer : s.advanceTick.timer k = (s.timer k).stepped.1 := by simp [State.advanceTick, State.timer, Timer.ticked_eq]
  exact htimer ▸ h.stepped

theorem State.keepsInputs_tickOnce : s.KeepsInputs s.tickOnce :=
  (s.keepsInputs_flushExpiries.trans (State.keepsInputs_advanceTick _)).trans (State.keepsInputs_takeExpiries _ _)

theorem State.keepsInputs_ticks (n : Nat) (s : State) : s.KeepsInputs (State.ticks n s) := by
  induction n generalizing s with
  | zero => exact .refl s
  | succ n ih => exact s.keepsInputs_tickOnce.trans (ih _)

theorem State.keepsInputs_tickFor (k : TimerId) : s.KeepsInputs (s.tickFor k) :=
  (s.keepsInputs_flushExpiries.trans (State.keepsInputs_advanceTick _)).trans (State.keepsInputs_takeExpiry _ _ _)

/-! ## Resets -/

/-- A reset of every block leaves reset records (R117, R140). -/
theorem State.keepsInputs_resetAll (tick : Option Instant) (hello : Option Cause) :
    s.KeepsInputs (s.resetAll tick hello) := by
  refine ⟨fun n _ => ?_, fun k _ => ?_⟩
  · have hline : (s.resetAll tick hello).line n = .reset (s.line n).raw := by
      simp [State.resetAll, State.resetLines, State.resetLink, State.line]
    exact hline ▸ Line.reset_lawful _
  · have htimer : (s.resetAll tick hello).timer k = .reset := by simp [State.resetAll, State.timer, TimerUnit.reset]
    exact htimer ▸ Timer.reset_lawful

/-- RESET DELIVERY restarts timers at the occurrences it counts (R23, R141). -/
theorem State.keepsInputs_takeReset (scope : Scope) : s.KeepsInputs (s.takeReset scope) := by
  cases scope with
  | full => exact s.keepsInputs_resetAll _ _
  | delivery =>
    rw [State.takeReset, State.resetDelivery_eq]
    have hclear : s.KeepsInputs ((s.resetLink (some .delivery)).setSources s.deliverySources) :=
      .of_blocks (by simp [State.resetLink]) (by simp [State.resetLink])
    have hrestart := hclear.trans (State.keepsInputs_restartTimers _ fun k =>
      s.raisedByDelivery (lineSource (s.timer k).watched))
    simp only [State.timer_setSources, State.timer_resetLink] at hrestart
    exact hrestart.setAlertBlock _

end Sys2Proof.Machine
end

section
/-! Every command keeps the laws of the line records and of the timer records (O58). -/

namespace Sys2Proof.Machine

/-! ## Requests -/

section
variable {s t : State}

theorem State.KeepsInputs.judged (h : s.KeepsInputs t) (b : State) : s.KeepsInputs (t.judged b) := h.setAlertBlock _

/-- Sources and sessions are blocks that the laws do not read. -/
theorem State.keepsInputs_of_records {src : Vector Source 32} {ses : Vector Session 4}
    (h : t = (s.setSources src).setSessions ses) : s.KeepsInputs t := h ▸ .of_blocks rfl rfl

theorem State.keepsInputs_closeSession (s : State) (d : Deliv) : s.KeepsInputs (s.closeSession d) := by
  obtain ⟨src, h, -⟩ := s.closeSession_only d
  rw [h]
  exact .of_blocks rfl rfl

theorem State.keepsInputs_stallSession (s : State) (d : Deliv) (p : Params) (dn : Byte) :
    s.KeepsInputs (s.stallSession d p dn) := by
  obtain ⟨src, h⟩ := s.stallSession_only d p dn
  rw [h]
  exact .of_blocks rfl rfl

theorem onDelivery_keepsInputs {f : Deliv → List Byte → State → Answer}
    (h : ∀ d payload, s.KeepsInputs (f d payload s).next) (σ : SessId) (payload : List Byte) :
    s.KeepsInputs (onDelivery f σ payload s).next := by
  unfold onDelivery
  split
  · exact h _ _
  · exact .refl s
end

/-- Every owner's effect keeps the laws: CONFIG_LINE and CONFIG_TIMER by the ranges of their fields, and what restarts,
stops or leaves timers in every case (R114, R133, R135 to R137). -/
theorem Request.owner_keepsInputs (r : Request) (σ : SessId) (payload : List Byte) (s : State) :
    s.KeepsInputs (r.owner σ payload s).next := by
  have hite : ∀ {c : Prop} [Decidable c] {a b : Answer}, (c → s.KeepsInputs a.next) → (¬c → s.KeepsInputs b.next) →
      s.KeepsInputs (if c then a else b).next := fun ha hb => by
    split
    · exact ha ‹_›
    · exact hb ‹_›
  have hsame : ∀ {p : Prop}, p → s.KeepsInputs s := fun _ => .refl s
  cases r
  case setAdmission =>
    simp only [Request.owner, ownSetAdmission]
    split
    · exact .refl s
    · exact (s.keepsInputs_changeAdmission _ _).judged s
  case configLine =>
    simp only [Request.owner, ownConfigLine]
    split
    · exact .refl s
    · rename_i a ha
      exact hite (fun _ => s.keepsInputs_setLine fun _ => Line.lawful_of_no_run (readConfigLine_filter ha) rfl) hsame
  case configTimer =>
    simp only [Request.owner, ownConfigTimer]
    split
    · exact .refl s
    · rename_i a ha
      have hp := readConfigTimer_period ha
      exact hite (fun hs => s.keepsInputs_setTimer fun h => h.configured hs _ _ hp) fun _ =>
        hite (fun _ => s.keepsInputs_setTimer fun h => h.setPending hp) hsame
  case startTimer =>
    simp only [Request.owner, ownStartTimer, Timer.started_eq]
    split
    · exact .refl s
    · exact s.keepsInputs_setTimer fun h => h.restarted
  case stopTimer =>
    simp only [Request.owner, ownStopTimer]
    split
    · exact .refl s
    · exact s.keepsInputs_setTimer fun h => h.stopped
  case snapshot =>
    simp only [Request.owner, ownSnapshot]
    split
    · exact .refl s
    · exact s.keepsInputs_flushExpiries.trans (.of_blocks rfl rfl)
  case close =>
    refine onDelivery_keepsInputs (fun d payload => ?_) σ payload
    split
    · exact .refl s
    all_goals exact (s.keepsInputs_closeSession d).judged s
  case accept =>
    refine onDelivery_keepsInputs (fun d payload => ?_) σ payload
    dsimp only
    split
    · exact .refl s
    · split
      · exact .refl s
      · exact .refl s
      · split
        · exact .refl s
        · obtain ⟨src, ses, h⟩ := s.acceptOffer_only d _
          exact (State.keepsInputs_of_records h).judged s
  case returnOffer =>
    refine onDelivery_keepsInputs (fun d payload => ?_) σ payload
    dsimp only
    split
    · exact .refl s
    · split
      · exact .refl s
      · exact .refl s
      · split
        · exact .refl s
        · obtain ⟨src, ses, h⟩ := s.giveBack_only d _ _
          exact (State.keepsInputs_of_records h).judged s
  case configSource | setTimebase | setAlert | reset =>
    simp only [Request.owner, ownConfigSource, ownSetTimebase, ownSetAlert, ownReset]
    repeat' split
    all_goals exact .of_blocks rfl rfl
  case querySource | queryLines | queryTimer | readTime | querySession | readCapture | discardCapture =>
    simp only [Request.owner, ownQuerySource, ownQueryLines, ownQueryTimer, ownReadTime, ownQuerySession, ownReadCapture,
      ownDiscardCapture]
    repeat' split
    all_goals exact .of_blocks rfl rfl
  case openSession | setSession | resume | done | doneTop =>
    refine onDelivery_keepsInputs (fun d payload => ?_) σ payload
    dsimp only
    repeat' split
    all_goals exact .of_blocks rfl rfl

theorem State.keepsInputs_execute {owner : Owner} (h : ∀ σ payload t, State.KeepsInputs t (owner σ payload t).next)
    (s : State) (slot : SlotId) (f : ReqFrame) : s.KeepsInputs (s.execute owner slot f) := by
  unfold State.execute
  split
  · dsimp only
    split
    · exact .of_blocks rfl rfl
    · unfold answerOf
      split
      · exact .of_blocks rfl rfl
      · exact (h _ f.payload s).trans (.of_blocks rfl rfl)
  · exact .of_blocks rfl rfl

theorem State.keepsInputs_goodFrame {owner : Owner} (h : ∀ σ payload t, State.KeepsInputs t (owner σ payload t).next)
    (s : State) (f : ReqFrame) : s.KeepsInputs (s.goodFrame owner f) := by
  unfold State.goodFrame
  dsimp only
  split
  · split
    · exact .of_blocks rfl rfl
    · split
      · exact .of_blocks rfl rfl
      · exact (State.keepsInputs_execute h _ _ f).after rfl rfl
  · exact .refl s

theorem State.keepsInputs_request (s : State) (r : Request) (f : ReqFrame) : s.KeepsInputs (s.goodFrame r.owner f) :=
  s.keepsInputs_goodFrame r.owner_keepsInputs f

theorem State.keepsInputs_anyGoodFrame (s : State) (f : ReqFrame) : s.KeepsInputs (s.anyGoodFrame f) := by
  refine s.keepsInputs_goodFrame (fun σ payload t => ?_) f
  unfold ownerOfCode
  cases Request.ofCode f.type with
  | some r => exact r.owner_keepsInputs σ payload t
  | none => exact .refl t

/-! ## Characters and frames -/

theorem State.keepsInputs_takeFault (s : State) : s.KeepsInputs s.takeFault := .of_blocks rfl rfl

/-- Every character but one that completes a good frame moves the receiver alone (R156, R157). -/
theorem State.keepsInputs_takeCharacter (s : State) (v : Byte) : s.KeepsInputs (s.takeCharacter v) := by
  have hinto : ∀ f, s.KeepsInputs (s.intoFrame f) := fun _ => .of_blocks rfl rfl
  unfold State.takeCharacter
  dsimp only
  split
  · split
    · exact hinto _
    · exact .refl s
  · split
    · exact hinto _
    · exact s.keepsInputs_takeFault
  · exact hinto _
  · exact hinto _
  · split <;> exact hinto _
  · split <;> exact hinto _
  · exact hinto _
  · split
    · exact s.keepsInputs_anyGoodFrame _
    · exact s.keepsInputs_takeFault

/-- A poll writes sources, sessions, the alert output and the frame on LTX (R39, R165). -/
theorem State.keepsInputs_poll (s : State) (ds : List Deliv) : s.KeepsInputs (s.poll ds) := by
  obtain ⟨h, -⟩ | ⟨d, -, o, s', ha, h⟩ := s.poll_cases ds
  · rw [h]
    exact .refl s
  · rw [h]
    obtain ⟨-, ⟨q, -, -, rfl⟩ | ⟨x, -, -, -, rfl⟩⟩ := State.pollAnswer_cases ha
    all_goals exact .of_blocks rfl rfl

theorem State.keepsInputs_pickFrame (s : State) : s.KeepsInputs s.pickFrame := by
  unfold State.pickFrame
  split
  · exact .of_blocks rfl rfl
  · split
    · exact .of_blocks rfl rfl
    · split
      · exact .of_blocks rfl rfl
      · split
        · exact .of_blocks rfl rfl
        · exact s.keepsInputs_poll _

theorem State.keepsInputs_releaseSlot (s : State) (slot : SlotId) : s.KeepsInputs (s.releaseSlot slot) := .of_blocks rfl rfl

theorem State.keepsInputs_replyEnded (s : State) (slot : SlotId) (starts : Bool) (order : EndOrder) :
    s.KeepsInputs (s.replyEnded slot starts order) := by
  have hrelease := s.keepsInputs_releaseSlot slot
  unfold State.replyEnded
  split
  · exact (hrelease.trans (State.keepsInputs_takeReset _ _)).trans (State.keepsInputs_pickFrame _)
  · cases order
    · exact hrelease.trans (State.keepsInputs_pickFrame _)
    · exact s.keepsInputs_pickFrame.trans (State.keepsInputs_releaseSlot _ slot)

theorem State.keepsInputs_frameEnded (s : State) (kind : TxKind) (order : EndOrder) :
    s.KeepsInputs (s.frameEnded kind order) := by
  have hgone : s.KeepsInputs s.frameGone := .of_blocks rfl rfl
  refine hgone.trans ?_
  cases kind with
  | reply slot starts => exact State.keepsInputs_replyEnded _ slot starts order
  | evt d dn =>
    obtain ⟨v, h⟩ := s.frameGone.startAckDeadline_only d dn
    simp only [State.frameEnded, h]
    exact (State.keepsInputs_pickFrame _).after rfl rfl
  | hello | link | stall => exact State.keepsInputs_pickFrame _

/-! ## The clock, the lines and the supply -/

variable {s t : State}

/-- A law kept by the state that the command answers. -/
theorem State.KeepsInputs.of_next {u : State} (h : (Host.Outcome.next t : Host.Outcome State Fault Refusal) = .next u)
    (ht : s.KeepsInputs t) : s.KeepsInputs u := by
  cases h
  exact ht

/-- A command that does one thing under its condition and nothing otherwise. -/
theorem State.KeepsInputs.of_ite {p : Prop} [Decidable p] {u : State}
    (h : (if p then (.next u : Host.Outcome State Fault Refusal) else .next s) = .next t) (hu : s.KeepsInputs u) :
    s.KeepsInputs t := by
  split at h
  · exact .of_next h hu
  · exact .of_next h (.refl s)

theorem execAckDeadlineExpiry_keepsInputs {d : Deliv} {dn : Byte} (h : execAckDeadlineExpiry d dn s = .next t) :
    s.KeepsInputs t := by
  unfold execAckDeadlineExpiry at h
  split at h
  · rename_i p o due _ _ _
    have hreach : s.KeepsInputs (s.reach due) := .of_blocks rfl rfl
    dsimp only at h
    split at h
    · exact .of_next h (.of_blocks rfl rfl)
    · exact .of_next h ((hreach.trans (State.keepsInputs_stallSession _ d p dn)).judged _)
  · exact .of_next h (.refl s)

theorem execHoldExpiry_keepsInputs {x : SourceId} (h : execHoldExpiry x s = .next t) : s.KeepsInputs t := by
  unfold execHoldExpiry at h
  split at h
  · exact .of_next h (.of_blocks rfl rfl)
  · exact .of_next h (.refl s)

theorem execRenewalGapEnd_keepsInputs (h : execRenewalGapEnd s = .next t) : s.KeepsInputs t := by
  unfold execRenewalGapEnd at h
  split at h
  · exact .of_next h (.of_blocks rfl rfl)
  · exact .of_next h (.refl s)

theorem execTimerExpiry_keepsInputs {k : TimerId} (h : execTimerExpiry k s = .next t) : s.KeepsInputs t := by
  unfold execTimerExpiry at h
  split at h
  · split at h
    · exact .of_next h (s.keepsInputs_takeExpiry _ _)
    · exact .of_ite h ((s.keepsInputs_ticks _).trans (State.keepsInputs_tickFor _ k))
  · exact .of_next h (.refl s)

theorem execLineSample_keepsInputs {levels : BitVec 24} (h : execLineSample levels s = .next t) : s.KeepsInputs t := by
  have hclock : s.KeepsInputs (s.setClock (s.clock + Config.samplePeriod)) := .of_blocks rfl rfl
  unfold execLineSample at h
  dsimp only at h
  split at h
  · exact .of_next h (hclock.trans (.foldl (fun u n => u.keepsInputs_sampleLine levels n) _ _))
  · exact .of_next h (hclock.trans (.foldl (fun u n => u.keepsInputs_sampleInReset levels n) _ _))

theorem State.keepsInputs_heldInReset (s : State) (p : Phase) : s.KeepsInputs (s.heldInReset p) :=
  (s.keepsInputs_resetAll none none).trans (.of_blocks rfl rfl)

theorem State.keepsInputs_endReset (s : State) (c : Cause) (br1 br0 : Bool) : s.KeepsInputs (s.endReset c br1 br0) :=
  (s.keepsInputs_resetAll s.firstTick (some c)).trans (.of_blocks rfl rfl)

theorem execPowerOnResetEnd_keepsInputs {br1 br0 : Bool} (h : execPowerOnResetEnd br1 br0 s = .next t) :
    s.KeepsInputs t := by
  unfold execPowerOnResetEnd at h
  split at h
  · exact .of_next h ((State.keepsInputs_endReset _ _ _ _).after rfl rfl)
  · exact .of_next h (.of_blocks rfl rfl)
  all_goals exact .of_next h (.refl s)

theorem execRstnAssert_keepsInputs (h : execRstnAssert s = .next t) : s.KeepsInputs t := by
  unfold execRstnAssert at h
  split at h
  · exact .of_next h (s.keepsInputs_heldInReset _)
  · exact .of_next h (.of_blocks rfl rfl)
  · exact .of_next h (.refl s)

theorem execRstnRelease_keepsInputs {br1 br0 : Bool} (h : execRstnRelease br1 br0 s = .next t) : s.KeepsInputs t := by
  unfold execRstnRelease at h
  split at h
  · exact .of_next h (s.keepsInputs_endReset _ _ _)
  · split at h
    · exact .of_next h (s.keepsInputs_endReset _ _ _)
    · exact .of_next h (.of_blocks rfl rfl)
  all_goals exact .of_next h (.refl s)

theorem execCharacterCompleted_keepsInputs {v : Byte} {moment : CharacterMoment}
    (h : execCharacterCompleted v moment s = .next t) : s.KeepsInputs t := by
  unfold execCharacterCompleted at h
  split at h
  · split at h
    · exact .of_next h (.of_blocks rfl rfl)
    · exact .of_next h (s.keepsInputs_takeCharacter v)
    · split at h
      · exact .of_next h (.refl s)
      · exact .of_next h s.keepsInputs_takeFault
  · exact .of_next h (.refl s)

/-! ## Every command -/

theorem exec_keepsInputs {c : Instr} (h : exec c s = .next t) : s.KeepsInputs t := by
  cases c with
  | configSource => exact .of_next h (s.keepsInputs_request .configSource _)
  | setAdmit => exact .of_next h (s.keepsInputs_request .setAdmission _)
  | configLine => exact .of_next h (s.keepsInputs_request .configLine _)
  | configTimer => exact .of_next h (s.keepsInputs_request .configTimer _)
  | startTimer => exact .of_next h (s.keepsInputs_request .startTimer _)
  | stopTimer => exact .of_next h (s.keepsInputs_request .stopTimer _)
  | setTimebase => exact .of_next h (s.keepsInputs_request .setTimebase _)
  | setAlert => exact .of_next h (s.keepsInputs_request .setAlert _)
  | reset => exact .of_next h (s.keepsInputs_request .reset _)
  | querySource => exact .of_next h (s.keepsInputs_request .querySource _)
  | queryLines => exact .of_next h (s.keepsInputs_request .queryLines _)
  | queryTimer => exact .of_next h (s.keepsInputs_request .queryTimer _)
  | readTime => exact .of_next h (s.keepsInputs_request .readTime _)
  | querySession => exact .of_next h (s.keepsInputs_request .querySession _)
  | snapshot => exact .of_next h (s.keepsInputs_request .snapshot _)
  | readCapture => exact .of_next h (s.keepsInputs_request .readCapture _)
  | discardCapture => exact .of_next h (s.keepsInputs_request .discardCapture _)
  | openSession => exact .of_next h (s.keepsInputs_request .openSession _)
  | close => exact .of_next h (s.keepsInputs_request .close _)
  | setSession => exact .of_next h (s.keepsInputs_request .setSession _)
  | resume => exact .of_next h (s.keepsInputs_request .resume _)
  | accept => exact .of_next h (s.keepsInputs_request .accept _)
  | returnOffer => exact .of_next h (s.keepsInputs_request .returnOffer _)
  | done => exact .of_next h (s.keepsInputs_request .done _)
  | doneTop => exact .of_next h (s.keepsInputs_request .doneTop _)
  | unknownType => exact .of_next h (s.keepsInputs_anyGoodFrame _)
  | overrun => exact .of_ite h (.of_blocks rfl rfl)
  | frameFault cause => cases cause <;> exact .of_ite h s.keepsInputs_takeFault
  | gapExceeded =>
    simp only [exec, execGapExceeded] at h
    split at h
    · exact .of_next h (.of_blocks rfl rfl)
    · exact .of_next h (.refl s)
  | pick => exact .of_ite h s.keepsInputs_pickFrame
  | endOfFrame order =>
    simp only [exec, execEndOfFrame] at h
    split at h
    · exact .of_next h (s.keepsInputs_frameEnded _ order)
    · exact .of_next h (.refl s)
  | ackDeadlineExpiry d dn => exact execAckDeadlineExpiry_keepsInputs h
  | holdExpiry x => exact execHoldExpiry_keepsInputs h
  | renewalGapEnd => exact execRenewalGapEnd_keepsInputs h
  | tick => exact .of_ite h s.keepsInputs_tickOnce
  | timerExpiry k => exact execTimerExpiry_keepsInputs h
  | occurrence n level => exact .of_ite h (s.keepsInputs_changeLevel n level)
  | assertion n =>
    simp only [exec, execAssertion] at h
    split at h
    · exact .of_ite h (s.keepsInputs_changeLevel n _)
    · exact .of_next h (.refl s)
  | deassertion n =>
    simp only [exec, execDeassertion] at h
    split at h
    · exact .of_ite h (s.keepsInputs_changeLevel n _)
    · exact .of_next h (.refl s)
  | powerOn => exact .of_next h (s.keepsInputs_heldInReset _)
  | powerOnResetEnd br1 br0 => exact execPowerOnResetEnd_keepsInputs h
  | rstnAssert => exact execRstnAssert_keepsInputs h
  | rstnRelease br1 br0 => exact execRstnRelease_keepsInputs h
  | lineSample levels => exact execLineSample_keepsInputs h
  | characterCompleted v moment => exact execCharacterCompleted_keepsInputs h

/-- Settles O58: a step runs the command at the front of the queue, which the laws do not read, and every command keeps the
law of each line record and of each timer record by itself. -/
theorem lineAndTimerLawsKept : Obligations.LineAndTimerLawsKept := by
  intro s t hl ht h
  have hkeeps : s.KeepsInputs t := by
    unfold step at h
    split at h
    · exact .of_next h (.refl s)
    · exact (exec_keepsInputs h).after rfl rfl
  exact ⟨fun n => hkeeps.line n (s.linesLawful_iff.mp hl n), fun k => hkeeps.timer k (ht k)⟩

end Sys2Proof.Machine
end

section
/-! The timer unit's requests taken: CONFIG_TIMER (O19), START_TIMER and STOP_TIMER (O20), SET_TIMEBASE (O21) and READ_TIME
(O26). -/

namespace Sys2Proof.Machine

/-! ## CONFIG_TIMER (R137) -/

section
variable {s : State} {k : TimerId} {m : TimerMode} {w : LineId} {period : Nat} (σ : SessId) (h1 : 1 ≤ period)
  (h2 : period ≤ 65535)
include h1 h2

/-- A STOPPED timer takes every setting. -/
theorem ownConfigTimer_of_stopped (hs : (s.timer k).state = .stopped) :
    ownConfigTimer σ ([byteOf k.val, m.code] ++ word16 period ++ [byteOf w.val]) s =
      .ok ([byteOf k.val, 0#8] ++ word16 period ++ [0#8, 0#8])
        (s.setTimer k { s.timer k with mode := m, period := period, pendingPeriod := none, watched := w }) := by
  have hzero : word16 0 = [0#8, 0#8] := rfl
  simp only [ownConfigTimer, readConfigTimer_codes k m w h1 h2, hs, if_true, TimerState.code, Option.getD_none, hzero]

/-- A timer at work, with its mode and watched source as they are, keeps the new period for its next load. -/
theorem ownConfigTimer_of_same (hs : (s.timer k).state ≠ .stopped) (hm : (s.timer k).mode = m)
    (hw : (s.timer k).watched = w) :
    ownConfigTimer σ ([byteOf k.val, m.code] ++ word16 period ++ [byteOf w.val]) s =
      .ok ([byteOf k.val, (s.timer k).state.code] ++ word16 (s.timer k).period ++ word16 period)
        (s.setTimer k { s.timer k with pendingPeriod := some period }) := by
  simp only [ownConfigTimer, readConfigTimer_codes k m w h1 h2, if_neg hs, if_pos (And.intro hm hw), Option.getD_some]
end

/-- Settles O19: the payload reads back the fields, and the state of the timer decides whether they hold at once or the
period waits. -/
theorem configTimerTakes : Obligations.ConfigTimerTakes := by
  intro k m period w tag slot s ht h1 h2
  refine ⟨fun hs => ?_, fun hs hm hw => ?_⟩
  · exact Request.exec_of_owner (r := .configTimer) (σ := 0) ht rfl rfl (ownConfigTimer_of_stopped 0 h1 h2 hs)
  · exact Request.exec_of_owner (r := .configTimer) (σ := 0) ht rfl rfl (ownConfigTimer_of_same 0 h1 h2 hs hm hw)

/-! ## START_TIMER and STOP_TIMER (R128, R135, R136) -/

theorem readTimer_byteOf (k : TimerId) : readTimer [byteOf k.val] = some k := fieldBelow_timer k

/-- START_TIMER restarts the timer, and the remaining and the period of its reply are both the period just loaded. -/
theorem ownStartTimer_byteOf (σ : SessId) (k : TimerId) (s : State) :
    ownStartTimer σ [byteOf k.val] s =
      .ok ([byteOf k.val] ++ word16 ((s.timer k).pendingPeriod.getD (s.timer k).period) ++
          word16 ((s.timer k).pendingPeriod.getD (s.timer k).period))
        (s.setTimer k (s.timer k).restarted) := by
  simp only [ownStartTimer, readTimer_byteOf, Timer.started_eq, Timer.restarted]

/-- STOP_TIMER writes the state of the timer and reports the one it had. -/
theorem ownStopTimer_byteOf (σ : SessId) (k : TimerId) (s : State) :
    ownStopTimer σ [byteOf k.val] s =
      .ok ([byteOf k.val, (s.timer k).state.code] ++ word16 (s.timer k).remaining)
        (s.setTimer k { s.timer k with state := .stopped }) := by
  simp only [ownStopTimer, readTimer_byteOf]

/-- Settles O20: the payload reads back the timer, and each owner writes its record alone. -/
theorem timerStartsAndStops : Obligations.TimerStartsAndStops := by
  intro k tag slot s
  refine ⟨fun ht => ?_, fun ht => ?_⟩
  · exact Request.exec_of_owner (r := .startTimer) (σ := 0) ht rfl rfl (ownStartTimer_byteOf 0 k s)
  · exact Request.exec_of_owner (r := .stopTimer) (σ := 0) ht rfl rfl (ownStopTimer_byteOf 0 k s)

/-! ## SET_TIMEBASE (R120, R123) -/

theorem State.allStopped_iff (s : State) : s.allStopped = true ↔ ∀ k, (s.timer k).state = .stopped := by
  simp [State.allStopped]

/-- With every timer STOPPED the ticks restart from this moment in the new time base. -/
theorem ownSetTimebase_of_stopped {s : State} (h : ∀ k, (s.timer k).state = .stopped) (σ : SessId) (b : TimeBase) :
    ownSetTimebase σ [b.code] s = .ok ([b.code] ++ word32 s.timeUnit.counter) (s.restartTicks b) := by
  simp only [ownSetTimebase, readTimeBase, timeBaseField_code, if_pos (s.allStopped_iff.mpr h), State.now]

/-- Settles O21: the owner restarts the ticks, one tick length of the new time base after the present clock. -/
theorem setTimebaseTakes : Obligations.SetTimebaseTakes := by
  intro b tag slot s ht h
  refine (Request.exec_of_owner (r := .setTimebase) (σ := 0) ht rfl rfl (ownSetTimebase_of_stopped h 0 b)).trans ?_
  cases b <;> rfl

/-! ## READ_TIME (R125) -/

/-- One bit for each timer that is not STOPPED (R125). -/
def State.notStoppedByte (s : State) : Byte := packBits ((List.finRange 8).map fun k => (s.timer k).state != .stopped)

theorem timeContents_eq (s : State) :
    timeContents s = word32 s.timeUnit.counter ++ [s.timeUnit.timeBase.code, s.notStoppedByte] := rfl

theorem State.notStoppedByte_getLsbD (s : State) (k : TimerId) :
    s.notStoppedByte.getLsbD k.val = decide ((s.timer k).state ≠ .stopped) := by
  have hdec : ((s.timer k).state != .stopped) = decide ((s.timer k).state ≠ .stopped) := by
    rw [Bool.eq_iff_iff]
    simp
  exact (packBits_getLsbD _ k.isLt).trans ((getD_map_finRange _ k).trans hdec)

/-- Each bit of the byte is that of one timer, so it is 0 exactly when no timer is at work. -/
theorem State.notStoppedByte_eq_zero_iff (s : State) :
    s.notStoppedByte = 0#8 ↔ ∀ k : TimerId, (s.timer k).state = .stopped := by
  refine ⟨fun h k => ?_, fun h => BitVec.eq_of_getLsbD_eq fun i hi => ?_⟩
  · have hbit := s.notStoppedByte_getLsbD k
    rw [h, BitVec.getLsbD_zero] at hbit
    exact not_not.mp (of_decide_eq_false hbit.symm)
  · rw [BitVec.getLsbD_zero]
    exact (s.notStoppedByte_getLsbD ⟨i, hi⟩).trans (decide_eq_false (not_not.mpr (h ⟨i, hi⟩)))

/-- Settles O26: the owner answers with contents alone, whose last byte has the bit of each timer. -/
theorem readTimeAnswers : Obligations.ReadTimeAnswers := by
  intro σ tag slot s ht
  refine ⟨s.notStoppedByte, ?_, s.notStoppedByte_getLsbD, s.notStoppedByte_eq_zero_iff⟩
  rw [← timeContents_eq]
  exact Request.exec_of_owner (r := .readTime) ht rfl rfl rfl

end Sys2Proof.Machine
end

section
/-! SNAPSHOT (O28): what it captures of an EMPTY buffer, and its answer of a HELD one. -/

namespace Sys2Proof.Machine

/-- Taking the expiries that wait leaves the present time. -/
@[simp] theorem State.waitingTaken_now (s : State) : s.waitingTaken.now = s.timeUnit.counter := by
  simp [State.now, State.waitingTaken_timeUnit]

/-- The expiries that wait are taken before the copy, which carries the present time (R144, R146). -/
theorem ownSnapshot_of_empty {s : State} (h : s.capture = none) (σ : SessId) :
    ownSnapshot σ [] s = .ok (word32 s.timeUnit.counter ++ [byteOf σ.val])
      (s.waitingTaken.setCapture (some { s.waitingTaken.captureNow σ with time := s.timeUnit.counter })) := by
  simp only [ownSnapshot, h, s.flushExpiries_eq, snapshotContents, State.captureNow, State.waitingTaken_now]

/-- A HELD buffer answers with its own time and owner (R145). -/
theorem ownSnapshot_of_held {s : State} {c : Capture} (h : s.capture = some c) (σ : SessId) :
    ownSnapshot σ [] s =
      { status := .held, contents := word32 c.time ++ [byteOf c.owner.val], next := s } := by
  simp only [ownSnapshot, h, snapshotContents]

/-- Settles O28: the buffer decides between the copy, after what waits has been taken, and the answer HELD. -/
theorem snapshotTakes : Obligations.SnapshotTakes := by
  intro σ tag slot s ht
  refine ⟨fun h => ?_, State.waitingTaken_of_none, fun c h => ?_⟩
  · exact Request.exec_of_owner (r := .snapshot) ht rfl rfl (ownSnapshot_of_empty h σ)
  · exact Request.exec_of_owner (r := .snapshot) ht rfl rfl (ownSnapshot_of_held h σ)

end Sys2Proof.Machine
end

section
/-! The capture buffer read and discarded: READ_CAPTURE (O29) and DISCARD_CAPTURE (O30). -/

namespace Sys2Proof.Machine

/-! ## READ_CAPTURE (R147, R148, R173) -/

theorem readPage_byteOf (p : Fin 4) : readPage [byteOf p.val] = some p := fieldBelow_page p

/-- The flags byte of a capture entry: bit 0 saturated, bit 1 hold (R173). -/
theorem packBits_pair (a b : Bool) :
    packBits [a, b] = byteOf ((if a then 1 else 0) + if b then 2 else 0) := by
  cases a <;> cases b <;> rfl

theorem CaptureEntry.bytes_eq (e : CaptureEntry) :
    e.bytes = [e.state.code, delivByte e.holder, e.admission.code, byteOf e.priority.val] ++ word16 e.count ++
      [byteOf ((if e.saturated then 1 else 0) + if e.hold then 2 else 0)] ++
      word32 (e.firstTime.getD 0) ++ word32 (e.lastTime.getD 0) := by
  rw [CaptureEntry.bytes, packBits_pair, timeField, timeField]

/-- Page `p` holds the entries of sources `8p` to `8p + 7`, in order (R142). -/
theorem Capture.page_eq (c : Capture) (p : Fin 4) :
    c.page p = (List.finRange 8).map fun j => c.entries[8 * p.val + j.val]'(by omega) := by
  have hlen : (c.page p).length = 8 := by
    simp only [Capture.page, List.length_take, List.length_drop, Vector.length_toList]
    omega
  refine List.ext_getElem (by rw [hlen, List.length_map, List.length_finRange]) fun j _ _ => ?_
  simp [Capture.page]

/-- The set of pages read after page `p` is complete when every other page was in it (R148). -/
theorem Capture.afterRead_eq (c : Capture) (p : Fin 4) :
    c.afterRead p = if ∀ q : Fin 4, q = p ∨ c.pagesRead[q] = true then none
      else some { c with pagesRead := c.pagesRead.set p true } := by
  have hread : ∀ q : Fin 4, (c.pagesRead.set p true)[q] = true ↔ q = p ∨ c.pagesRead[q] = true := fun q => by
    simp [Vector.getElem_set, Fin.ext_iff, eq_comm (a := p.val)]
  simp only [Capture.afterRead, List.all_eq_true, List.mem_finRange, forall_const, hread]

section
variable {s : State} {c : Capture}

theorem ownReadCapture_of_empty (h : s.capture = none) (σ : SessId) (p : Fin 4) :
    ownReadCapture σ [byteOf p.val] s = .refuse .captureEmpty s := by
  simp only [ownReadCapture, readPage_byteOf, h]

theorem ownReadCapture_of_other (h : s.capture = some c) {σ : SessId} (hσ : c.owner ≠ σ) (p : Fin 4) :
    ownReadCapture σ [byteOf p.val] s = .refuse .captureBusy s := by
  simp only [ownReadCapture, readPage_byteOf, h, if_neg hσ]

/-- The owner's read answers with the page and puts it in the pages read. -/
theorem ownReadCapture_of_owner (h : s.capture = some c) {σ : SessId} (hσ : c.owner = σ) (p : Fin 4) :
    ownReadCapture σ [byteOf p.val] s = .ok (pageContents c p) (s.setCapture (c.afterRead p)) := by
  simp only [ownReadCapture, readPage_byteOf, h, if_pos hσ]
end

/-- Settles O29: the buffer and its owner decide between the three answers; the contents are the page's entries byte by
byte, and the pages read are complete by the rule of R148. -/
theorem captureIsRead : Obligations.CaptureIsRead := by
  intro σ p tag slot s ht
  refine ⟨fun h => ?_, fun c h => ⟨fun hσ => ?_, fun hσ => ?_⟩⟩
  · exact Request.exec_of_owner (r := .readCapture) ht rfl rfl (ownReadCapture_of_empty h σ p)
  · exact Request.exec_of_owner (r := .readCapture) ht rfl rfl (ownReadCapture_of_other h hσ p)
  · refine (Request.exec_of_owner (r := .readCapture) ht rfl rfl (ownReadCapture_of_owner h hσ p)).trans ?_
    rw [Capture.afterRead_eq, pageContents, Capture.page_eq, List.flatMap_map]
    simp only [CaptureEntry.bytes_eq]
    rfl

/-! ## DISCARD_CAPTURE (R149) -/

/-- A byte that packs `n` flags has no bit above them. -/
theorem packBits_toNat_lt (bits : List Bool) : (packBits bits).toNat < 2 ^ bits.length := by
  induction bits with
  | nil => decide
  | cons b bits ih =>
    have hle : (packBits (b :: bits)).toNat ≤ 2 * (packBits bits).toNat + b.toNat := by
      have hflag : (flagByte b).toNat = b.toNat := by cases b <;> rfl
      have htwo : (2 : Byte).toNat = 2 := rfl
      have hcons : packBits (b :: bits) = packBits bits * 2 + flagByte b := rfl
      rw [hcons, BitVec.toNat_add, BitVec.toNat_mul, hflag, htwo]
      omega
    have hb := b.toNat_lt
    rw [List.length_cons, pow_succ]
    omega

theorem pagesByte_getLsbD (pages : Vector Bool 4) (p : Fin 4) : (pagesByte pages).getLsbD p.val = pages[p] :=
  (packBits_getLsbD _ (by omega)).trans (getD_map_finRange _ p)

theorem pagesByte_toNat_lt (pages : Vector Bool 4) : (pagesByte pages).toNat < 16 := packBits_toNat_lt _

section
variable {s : State} {c : Capture}

theorem ownDiscardCapture_of_empty (h : s.capture = none) (σ : SessId) :
    ownDiscardCapture σ [] s = .refuse .captureEmpty s := by
  simp only [ownDiscardCapture, h]

theorem ownDiscardCapture_of_other (h : s.capture = some c) {σ : SessId} (hσ : c.owner ≠ σ) :
    ownDiscardCapture σ [] s = .refuse .captureBusy s := by
  simp only [ownDiscardCapture, h, if_neg hσ]

/-- The owner's discard releases the capture and reports the pages it had read. -/
theorem ownDiscardCapture_of_owner (h : s.capture = some c) {σ : SessId} (hσ : c.owner = σ) :
    ownDiscardCapture σ [] s = .ok [pagesByte c.pagesRead] (s.setCapture none) := by
  simp only [ownDiscardCapture, h, if_pos hσ]
end

/-- Settles O30: the buffer and its owner decide between the three answers, and the byte of the owner's has one bit for
each page read. -/
theorem captureIsDiscarded : Obligations.CaptureIsDiscarded := by
  intro σ tag slot s ht
  refine ⟨fun h => ?_, fun c h => ⟨fun hσ => ?_, fun hσ => ?_⟩⟩
  · exact Request.exec_of_owner (r := .discardCapture) ht rfl rfl (ownDiscardCapture_of_empty h σ)
  · exact Request.exec_of_owner (r := .discardCapture) ht rfl rfl (ownDiscardCapture_of_other h hσ)
  · refine ⟨pagesByte c.pagesRead, ?_, pagesByte_getLsbD c.pagesRead, pagesByte_toNat_lt c.pagesRead⟩
    exact Request.exec_of_owner (r := .discardCapture) ht rfl rfl (ownDiscardCapture_of_owner h hσ)

end Sys2Proof.Machine
end

section
/-! Good frames and link faults: what the receiver makes of a frame by its free slots, the pending reset and the checks of
R176 (O6, O10, O11, O12), and FRAME_FAULT and GAP_EXCEEDED (O37). -/

namespace Sys2Proof.Machine

/-! ## The free slot (R159) -/

/-- The lowest FREE slot is the one that a good frame claims, whatever the dispatcher waits for (log entry 5). -/
theorem State.freeSlot_of_lowest {s : State} {slot : SlotId} (hp : s.phase = .running)
    (hf : s.receiver.slots[slot] = .free) (hlow : ∀ j : SlotId, j < slot → s.receiver.slots[j] ≠ .free) :
    s.freeSlot = some slot :=
  State.freeSlot_of_canReceive (s := s.setDispatcher { s.dispatcher with pendingReset := none }) ⟨hp, rfl, hf, hlow⟩

theorem State.freeSlot_eq_none_iff (s : State) : s.freeSlot = none ↔ ∀ i : SlotId, s.receiver.slots[i] ≠ .free := by
  simp [State.freeSlot, State.slotFree]

/-- The slot that a good frame claims is FREE. -/
theorem State.free_of_freeSlot {s : State} {slot : SlotId} (h : s.freeSlot = some slot) :
    s.receiver.slots[slot] = .free := by
  have hslot : s.slotFree slot = true := List.find?_some h
  simpa [State.slotFree] using hslot

/-! ## Link faults (R157, R159, R162) -/

/-- An overrun raises its count up to 255, records the frame and owes LINK. -/
theorem State.hunt_takeOverrun (s : State) (sess tag : Byte) :
    s.hunt.takeOverrun sess tag =
      (s.setReceiver { s.receiver with
        framing := .hunt, gapTimer := none, overruns := min 255 (s.receiver.overruns + 1)
        lastDiscarded := some (sess, tag) }).setTransmitter { s.transmitter with linkOwed := true } := by
  rw [State.takeOverrun, saturatingSucc_eq]
  rfl

/-- A frame fault discards the frame in progress, raises its count up to 255 and owes LINK. -/
theorem State.takeFault_eq (s : State) :
    s.takeFault =
      (s.setReceiver { s.receiver with
        framing := .hunt, gapTimer := none, frameFaults := min 255 (s.receiver.frameFaults + 1) }).setTransmitter
        { s.transmitter with linkOwed := true } := by
  rw [State.takeFault, saturatingSucc_eq]
  rfl

theorem exec_frameFault {s : State} (hp : s.phase = .running) (cause : FaultCause) :
    exec (.frameFault cause) s = .next s.takeFault := by
  cases cause <;> exact if_pos (State.isRunning_iff.mpr hp)

/-- With the gap timer stopped no gap ends. -/
theorem exec_gapExceeded_of_stopped {s : State} (h : s.receiver.gapTimer = none) : exec .gapExceeded s = .next s := by
  simp only [exec, execGapExceeded, h]
  cases s.isRunning <;> rfl

/-- Settles O37: every cause has the one effect, and the gap's end has it at the instant of the gap timer. -/
theorem frameFaultsCount : Obligations.FrameFaultsCount := by
  intro s hp faulted
  have hfault : ∀ t : State, t.takeFault = faulted t := State.takeFault_eq
  refine ⟨fun cause => ?_, fun t ht => ?_, exec_gapExceeded_of_stopped⟩
  · rw [exec_frameFault hp, hfault]
  · simp only [exec, execGapExceeded, State.isRunning_iff.mpr hp, ht, hfault]
    rfl

/-! ## Good frames (R159, R168, R174, R183) -/

/-- UNKNOWN_TYPE is the good frame of its TYPE, as a request's command is that of its code. -/
theorem exec_unknownType (type sess tag : Byte) (payload : List Byte) (s : State) :
    exec (.unknownType type sess tag payload) s =
      .next (s.anyGoodFrame { sess := sess, type := type, tag := tag, payload := payload }) := rfl

/-- Settles O11: a good frame of any owner that finds no free slot is the overrun. -/
theorem overrunDiscards : Obligations.OverrunDiscards := by
  intro sess tag s hp hslots t
  have hrun := State.isRunning_iff.mpr hp
  have hfull := s.freeSlot_eq_none_iff.mpr hslots
  have hover : s.hunt.takeOverrun sess tag = t := s.hunt_takeOverrun sess tag
  refine ⟨?_, fun r payload => ?_, fun type payload => ?_⟩
  · rw [← hover]
    exact if_pos ⟨hrun, hfull⟩
  · rw [Request.exec_command, State.goodFrame_overrun s _ _ hrun hfull, hover]
  · rw [exec_unknownType, State.anyGoodFrame, State.goodFrame_overrun s _ _ hrun hfull, hover]

/-- Settles O10: a good frame of any owner claims the lowest free slot and waits there. -/
theorem pendingResetHoldsRequests : Obligations.PendingResetHoldsRequests := by
  intro sess tag payload slot scope s hp hreset hf hlow waits
  have hwaits : ∀ owner type,
      s.goodFrame owner { sess := sess, type := type, tag := tag, payload := payload } = waits type := fun owner type =>
    s.goodFrame_waits owner _ slot scope (State.isRunning_iff.mpr hp) (State.freeSlot_of_lowest hp hf hlow) hreset
  refine ⟨fun r => ?_, fun type => ?_⟩
  · rw [Request.exec_command, hwaits]
  · rw [exec_unknownType, State.anyGoodFrame, hwaits]

/-- Settles O12: each of these commands asks first whether the part runs. -/
theorem resetStopsReceiver : Obligations.ResetStopsReceiver := by
  intro s hp
  have hheld : s.isRunning = false := by simpa [State.isRunning] using hp
  have hframe : ∀ owner f, s.goodFrame owner f = s := fun owner f => s.goodFrame_held owner f hheld
  refine ⟨fun r sess tag payload => ?_, fun type sess tag payload => ?_, fun sess tag => ?_, fun cause => ?_,
    fun value moment => ?_⟩
  · rw [Request.exec_command, hframe]
  · rw [exec_unknownType, State.anyGoodFrame, hframe]
  · simp [exec, execOverrun, hheld]
  · cases cause <;> simp [exec, execFrameFault, hheld]
  · simp [exec, execCharacterCompleted, hheld]

/-! ## The checks of a header (R176, R179) -/

/-- SESS reads back the session written in it (R170). -/
theorem byteOf_session (σ : SessId) : (byteOf σ.val).toNat = σ.val := by
  rw [byteOf_toNat]
  omega

/-- A request that may be taken finds no answer in its session's cache (R180). -/
theorem State.cachedAnswer_of_canTake {s : State} {σ : SessId} {type tag : Byte} {slot : SlotId}
    (h : s.canTake σ type tag slot) : s.cachedAnswer σ type tag = none := by
  rw [State.cachedAnswer, Option.filter_eq_none_iff]
  intro c hc
  simpa using h.2 c hc

/-- A good frame that fails one of steps 2 to 4 of R176 is answered with that step's status, and nothing else changes. -/
theorem State.goodFrame_refused {s : State} {slot : SlotId} {σ : SessId} {f : ReqFrame} {status : Status} (owner : Owner)
    (h : s.canTake σ f.type f.tag slot) (hσ : f.sess = byteOf σ.val)
    (hr : headerRefusal σ f.type f.payload = some status) :
    s.goodFrame owner f = s.answered slot σ f.type f.tag status [] := by
  have hcan : s.canReceive slot := h.1
  have hmiss : s.cachedAnswer σ f.type f.tag = none := State.cachedAnswer_of_canTake h
  have hfresh : (s.hunt.claimSlot slot f).cachedAnswer σ f.type f.tag = none := hmiss
  rw [State.goodFrame_executes s owner f slot (State.isRunning_iff.mpr hcan.1) (State.freeSlot_of_canReceive hcan) hcan.2.1,
    State.execute_fresh _ owner slot f σ (hσ ▸ byteOf_session σ) hfresh, answerOf, hr]
  simp only [Answer.place, Answer.refuse, State.queueReply, State.fillCache, State.answered, State.replied, State.setSlot,
    State.claimSlot, State.hunt, State.setReceiver, State.setTransmitter, State.setDispatcher, Vector.set_set, hσ]

/-- A SESS above 4 is answered BAD_SESSION before any owner is asked, and no cache changes. -/
theorem State.goodFrame_badSession {s : State} {slot : SlotId} (owner : Owner) (f : ReqFrame) (h : s.canReceive slot)
    (hσ : 5 ≤ f.sess.toNat) : s.goodFrame owner f = s.replied slot f.sess f.type f.tag .badSession [] := by
  rw [State.goodFrame_executes s owner f slot (State.isRunning_iff.mpr h.1) (State.freeSlot_of_canReceive h) h.2.1,
    State.execute, dif_neg (Nat.not_lt.mpr hσ)]
  simp only [State.queueReply, State.replied, State.setSlot, State.claimSlot, State.hunt, State.setReceiver,
    State.setTransmitter, Vector.set_set]

/-- Settles O6: a TYPE outside the table fails step 2 of R176, and step 1 goes before it. -/
theorem unknownTypeRefused : Obligations.UnknownTypeRefused := by
  intro type tag payload slot s htype
  have hcode : Request.ofCode type = none := by
    rwa [← Option.not_isSome_iff_eq_none, Request.ofCode_isSome_iff]
  refine ⟨fun σ h => ?_, fun sess h hσ => ?_⟩
  · have hrefusal : headerRefusal σ type payload = some .unknownType := by rw [headerRefusal, hcode]
    rw [exec_unknownType, State.anyGoodFrame, State.goodFrame_refused _ h rfl hrefusal]
  · rw [exec_unknownType, State.anyGoodFrame, State.goodFrame_badSession _ _ h hσ]

end Sys2Proof.Machine
end

section
/-! CHARACTER_COMPLETED (O38): what one character makes of the frame in progress. -/

namespace Sys2Proof.Machine

/-! ## One character (R156) -/

section
variable {s : State} {v : Byte}

theorem State.takeCharacter_sync (h : s.receiver.framing = .hunt) (hv : v = Config.sync) :
    s.takeCharacter v = s.intoFrame .headerLen := by
  simp only [State.takeCharacter, h, if_pos hv]

theorem State.takeCharacter_hunt (h : s.receiver.framing = .hunt) (hv : v ≠ Config.sync) : s.takeCharacter v = s := by
  simp only [State.takeCharacter, h, if_neg hv]

theorem State.takeCharacter_len (h : s.receiver.framing = .headerLen) (hv : v.toNat ≤ 48) :
    s.takeCharacter v = s.intoFrame (.headerSess v) := by
  simp only [State.takeCharacter, h, if_pos (show v.toNat ≤ Config.maxRequestLen from hv)]

theorem State.takeCharacter_lenAbove (h : s.receiver.framing = .headerLen) (hv : 49 ≤ v.toNat) :
    s.takeCharacter v = s.takeFault := by
  simp only [State.takeCharacter, h, if_neg (show ¬ v.toNat ≤ Config.maxRequestLen from Nat.not_le.mpr hv)]

theorem State.takeCharacter_sess {len : Byte} (h : s.receiver.framing = .headerSess len) :
    s.takeCharacter v = s.intoFrame (.headerType len v) := by
  simp only [State.takeCharacter, h]

theorem State.takeCharacter_type {len sess : Byte} (h : s.receiver.framing = .headerType len sess) :
    s.takeCharacter v = s.intoFrame (.headerTag len sess v) := by
  simp only [State.takeCharacter, h]

theorem State.takeCharacter_tag {len sess type : Byte} (h : s.receiver.framing = .headerTag len sess type) :
    s.takeCharacter v =
      s.intoFrame (if len = 0#8 then .checkLow len sess type v [] else .payload len sess type v []) := by
  simp only [State.takeCharacter, h, apply_ite s.intoFrame]
  rfl

theorem State.takeCharacter_payload {len sess type tag : Byte} {taken : List Byte}
    (h : s.receiver.framing = .payload len sess type tag taken) :
    s.takeCharacter v = s.intoFrame (if taken.length + 1 < len.toNat then .payload len sess type tag (taken ++ [v])
      else .checkLow len sess type tag (taken ++ [v])) := by
  simp only [State.takeCharacter, h, List.length_append, List.length_singleton, apply_ite s.intoFrame]

theorem State.takeCharacter_checkLow {len sess type tag : Byte} {taken : List Byte}
    (h : s.receiver.framing = .checkLow len sess type tag taken) :
    s.takeCharacter v = s.intoFrame (.checkHigh len sess type tag taken v) := by
  simp only [State.takeCharacter, h]

/-- Two check bytes are those of the CRC when the CRC is their number, the low byte first (R155). -/
theorem crcBytes_eq_iff (low high : Byte) (body : List Byte) :
    [low, high] = crcBytes body ↔ high ++ low = crc16 body := by
  obtain ⟨l, h, hbytes, hcrc⟩ := crcBytes_spec body
  rw [hbytes, ← hcrc]
  constructor
  · rintro ⟨⟩
    rfl
  · intro e
    have hlow : low = l := by
      rw [← BitVec.extractLsb'_append_eq_right (a := high) (b := low), e, BitVec.extractLsb'_append_eq_right]
    have hhigh : high = h := by
      rw [hlow] at e
      exact (BitVec.append_left_inj l).mp e
    rw [hlow, hhigh]

/-- A CRC that agrees makes a good frame. -/
theorem State.takeCharacter_checked {len sess type tag low : Byte} {taken : List Byte}
    (h : s.receiver.framing = .checkHigh len sess type tag taken low)
    (hv : v ++ low = crc16 (len :: sess :: type :: tag :: taken)) :
    s.takeCharacter v = s.anyGoodFrame { sess := sess, type := type, tag := tag, payload := taken } := by
  simp only [State.takeCharacter, h, if_pos ((crcBytes_eq_iff _ _ _).mpr hv)]

/-- A CRC that disagrees is a frame fault (R157). -/
theorem State.takeCharacter_disagrees {len sess type tag low : Byte} {taken : List Byte}
    (h : s.receiver.framing = .checkHigh len sess type tag taken low)
    (hv : v ++ low ≠ crc16 (len :: sess :: type :: tag :: taken)) : s.takeCharacter v = s.takeFault := by
  simp only [State.takeCharacter, h, if_neg (hv ∘ (crcBytes_eq_iff _ _ _).mp)]

/-! ## The command (R153, R158) -/

theorem exec_character (hp : s.phase = .running) (v : Byte) :
    exec (.characterCompleted v (.completed true)) s = .next (s.takeCharacter v) :=
  if_pos (State.isRunning_iff.mpr hp)

theorem exec_startBit (hp : s.phase = .running) (v : Byte) :
    exec (.characterCompleted v .startBit) s = .next s.takeStartBit :=
  if_pos (State.isRunning_iff.mpr hp)

theorem exec_characterError (hp : s.phase = .running) (v : Byte) :
    exec (.characterCompleted v (.completed false)) s =
      if s.receiver.framing = .hunt then .next s else .next s.takeFault :=
  if_pos (State.isRunning_iff.mpr hp)
end

/-- Settles O38: each framing state takes the character by its row of the table, and the start bit leaves the gap timer
stopped. -/
theorem characterMovesReceiver : Obligations.CharacterMovesReceiver := by
  intro v s hp goes faults
  have hgoes : ∀ {f}, s.takeCharacter v = s.intoFrame f → goes f := fun e => by
    change exec _ s = _
    rw [exec_character hp, e]
    rfl
  have hfaults : s.takeCharacter v = s.takeFault → faults := fun e => by
    change exec _ s = exec _ s
    rw [exec_character hp, exec_frameFault hp, e]
  refine ⟨fun h hv => hgoes (State.takeCharacter_sync h hv), fun h hv => ?_,
    fun h hv => hgoes (State.takeCharacter_len h hv), fun h hv => hfaults (State.takeCharacter_lenAbove h hv),
    fun len h => hgoes (State.takeCharacter_sess h), fun len sess h => hgoes (State.takeCharacter_type h),
    fun len sess type h => ⟨fun hz => hgoes ?_, fun hz => hgoes ?_⟩,
    fun len sess type tag taken h => ⟨fun hl => hgoes ?_, fun hl => hgoes ?_⟩,
    fun len sess type tag taken h => hgoes (State.takeCharacter_checkLow h),
    fun len sess type tag taken low h => ⟨fun hc => ?_, fun hc => hfaults (State.takeCharacter_disagrees h hc)⟩,
    fun h => ?_, fun h => ?_, exec_startBit hp v, exec_gapExceeded_of_stopped rfl⟩
  · rw [exec_character hp, State.takeCharacter_hunt h hv]
  · rw [State.takeCharacter_tag h, if_pos hz]
  · rw [State.takeCharacter_tag h, if_neg hz]
  · rw [State.takeCharacter_payload h, if_pos hl]
  · rw [State.takeCharacter_payload h, if_neg (Nat.not_lt.mpr hl)]
  · rw [exec_character hp, State.takeCharacter_checked h hc]
  · rw [exec_characterError hp, if_pos h]
  · rw [exec_characterError hp, if_neg h, exec_frameFault hp]

end Sys2Proof.Machine
end

section
/-! The characters of a whole frame, one by one, do what its good frame does (O39). -/

namespace Sys2Proof.Machine

/-! ## A run of the queue -/

/-- The commands of these characters, each sent with its start bit or without (log entry 11). -/
def characters (starts : Bool) (bytes : List Byte) : List Instr :=
  bytes.flatMap fun v =>
    (if starts then [Instr.characterCompleted v .startBit] else []) ++ [.characterCompleted v (.completed true)]

theorem run_succ_of_next (M : Host.Core) {s t : M.State} (h : M.step s = .next t) (n : Nat) :
    M.run (n + 1) s = M.run n t := by
  simp only [Host.Core.run, h]

/-- The first command of the queue runs first. -/
theorem run_setPending_cons {c : Instr} {rest : List Instr} {s t : State} (h : exec c (s.setPending rest) = .next t)
    (n : Nat) : Sys2Proof.core.run (n + 1) (s.setPending (c :: rest)) = Sys2Proof.core.run n t := by
  have hstep : Sys2Proof.core.step (s.setPending (c :: rest)) = .next t := h
  exact run_succ_of_next Sys2Proof.core hstep n

/-! ## Characters inside a frame (R156, R158) -/

section
variable {s : State} {starts : Bool}

/-- Characters of which the first takes the frame in progress from `φ` to `ψ`, with its start bit or without. -/
theorem run_characters_cons (hp : s.phase = .running) {φ ψ : Framing} {v : Byte} (hφ : s.receiver.framing = φ)
    (hv : ∀ t : State, t.receiver.framing = φ → t.takeCharacter v = t.intoFrame ψ) (bytes : List Byte) :
    Sys2Proof.core.run (characters starts (v :: bytes)).length (s.setPending (characters starts (v :: bytes))) =
      Sys2Proof.core.run (characters starts bytes).length
        ((s.intoFrame ψ).setPending (characters starts bytes)) := by
  have hcompleted : ∀ t : State, t.phase = .running → t.receiver.framing = φ →
      exec (.characterCompleted v (.completed true)) (t.setPending (characters starts bytes)) =
        .next ((t.intoFrame ψ).setPending (characters starts bytes)) := fun t ht htφ => by
    rw [exec_character (s := t.setPending (characters starts bytes)) ht, hv (t.setPending (characters starts bytes)) htφ]
    rfl
  cases starts with
  | false => exact run_setPending_cons (hcompleted s hp hφ) _
  | true =>
    have hstart := exec_startBit
      (s := s.setPending (.characterCompleted v (.completed true) :: characters true bytes)) hp v
    refine (run_setPending_cons hstart _).trans ?_
    exact run_setPending_cons (hcompleted s.takeStartBit hp hφ) _

/-- The payload bytes that LEN still gives take the frame in progress to its check bytes. -/
theorem run_characters_payload (hp : s.phase = .running) {len sess type tag : Byte} {taken : List Byte} {v : Byte}
    {rest : List Byte} (hφ : s.receiver.framing = .payload len sess type tag taken)
    (hlen : taken.length + (v :: rest).length = len.toNat) (bytes : List Byte) :
    Sys2Proof.core.run (characters starts (v :: rest ++ bytes)).length
        (s.setPending (characters starts (v :: rest ++ bytes))) =
      Sys2Proof.core.run (characters starts bytes).length
        ((s.intoFrame (.checkLow len sess type tag (taken ++ v :: rest))).setPending (characters starts bytes)) := by
  induction rest generalizing s taken v with
  | nil =>
    refine run_characters_cons hp hφ (fun t ht => ?_) bytes
    have hlast : ¬ taken.length + 1 < len.toNat := Nat.not_lt.mpr hlen.ge
    rw [State.takeCharacter_payload ht, if_neg hlast]
  | cons w rest ih =>
    simp only [List.length_cons] at hlen
    have hmore : taken.length + 1 < len.toNat := by omega
    have hleft : (taken ++ [v]).length + (w :: rest).length = len.toNat := by
      rw [List.length_append, List.length_singleton, List.length_cons]
      omega
    refine (run_characters_cons hp hφ (ψ := .payload len sess type tag (taken ++ [v])) (fun t ht => ?_) _).trans ?_
    · rw [State.takeCharacter_payload ht, if_pos hmore]
    · refine (ih (s := s.intoFrame _) hp rfl hleft).trans ?_
      rw [List.append_assoc]
      rfl
end

/-- The characters from SYNC to the last payload byte leave the frame waiting for its check bytes (R156, R170). -/
theorem run_characters_body {s : State} {starts : Bool} (hp : s.phase = .running) (hφ : s.receiver.framing = .hunt)
    (f : ReqFrame) (hlen : f.payload.length ≤ 48) (bytes : List Byte) :
    Sys2Proof.core.run
        (characters starts ([0xB6#8, byteOf f.payload.length, f.sess, f.type, f.tag] ++ f.payload ++ bytes)).length
        (s.setPending
          (characters starts ([0xB6#8, byteOf f.payload.length, f.sess, f.type, f.tag] ++ f.payload ++ bytes))) =
      Sys2Proof.core.run (characters starts bytes).length
        ((s.intoFrame (.checkLow (byteOf f.payload.length) f.sess f.type f.tag f.payload)).setPending
          (characters starts bytes)) := by
  obtain ⟨sess, type, tag, payload⟩ := f
  change payload.length ≤ 48 at hlen
  have hbyte : (byteOf payload.length).toNat = payload.length := by
    rw [byteOf_toNat]
    exact Nat.mod_eq_of_lt (by omega)
  set len := byteOf payload.length
  refine (run_characters_cons hp hφ (fun t ht => State.takeCharacter_sync ht rfl) _).trans ?_
  refine (run_characters_cons (s := s.intoFrame _) hp rfl
    (fun t ht => State.takeCharacter_len (v := len) ht (hbyte ▸ hlen)) _).trans ?_
  refine (run_characters_cons (s := s.intoFrame _) hp rfl (fun t ht => State.takeCharacter_sess ht) _).trans ?_
  refine (run_characters_cons (s := s.intoFrame _) hp rfl (fun t ht => State.takeCharacter_type ht) _).trans ?_
  refine (run_characters_cons (s := s.intoFrame _) hp rfl (fun t ht => State.takeCharacter_tag ht) _).trans ?_
  cases payload with
  | nil => rfl
  | cons v rest =>
    have hnonzero : len ≠ 0#8 := fun h => by simp [h] at hbyte
    rw [if_neg hnonzero]
    exact run_characters_payload (s := s.intoFrame _) (taken := []) hp rfl (by simpa using hbyte.symm) bytes

/-! ## The good frame -/

/-- What a good frame does to a running part does not depend on the frame in progress or on the gap timer (R156). -/
theorem State.goodFrame_intoFrame {s : State} (hp : s.phase = .running) (φ : Framing) (gap : Option Instant)
    (owner : Owner) (f : ReqFrame) :
    (s.setReceiver { s.receiver with framing := φ, gapTimer := gap }).goodFrame owner f = s.goodFrame owner f := by
  have hhunt : (s.setReceiver { s.receiver with framing := φ, gapTimer := gap }).hunt = s.hunt := rfl
  have hrun : ∀ r, (s.setReceiver r).isRunning = true := fun _ => State.isRunning_iff.mpr hp
  simp only [State.goodFrame, hhunt, hrun, State.isRunning_iff.mpr hp, if_true]

/-- The command that the good frame of this TYPE is. -/
theorem exec_goodFrame (f : ReqFrame) (s : State) :
    exec (match Request.ofCode f.type with
      | some r => r.command f.sess f.tag f.payload
      | none => .unknownType f.type f.sess f.tag f.payload) s = .next (s.anyGoodFrame f) := by
  obtain ⟨sess, type, tag, payload⟩ := f
  cases h : Request.ofCode type with
  | none => exact exec_unknownType _ _ _ _ s
  | some r =>
    obtain rfl := Request.code_ofCode h
    simp only [Request.exec_command, State.anyGoodFrame, ownerOfCode_code]

/-- The high check byte of a CRC that agrees makes the good frame of what was taken. -/
theorem run_characters_checked {s : State} {starts : Bool} (hp : s.phase = .running) {len low high : Byte} {f : ReqFrame}
    (hφ : s.receiver.framing = .checkHigh len f.sess f.type f.tag f.payload low)
    (hcrc : high ++ low = crc16 ([len, f.sess, f.type, f.tag] ++ f.payload)) :
    Sys2Proof.core.run (characters starts [high]).length (s.setPending (characters starts [high])) =
      .next ((s.setPending []).anyGoodFrame f) := by
  have hcompleted : ∀ t : State, t.phase = .running → t.receiver.framing = s.receiver.framing →
      exec (.characterCompleted high (.completed true)) (t.setPending []) = .next ((t.setPending []).anyGoodFrame f) :=
    fun t ht htφ => by
      rw [exec_character (s := t.setPending []) ht, State.takeCharacter_checked (s := t.setPending []) (htφ.trans hφ) hcrc]
  cases starts with
  | false => exact run_setPending_cons (hcompleted s hp rfl) 0
  | true =>
    have hstart := exec_startBit (s := s.setPending [.characterCompleted high (.completed true)]) hp high
    refine (run_setPending_cons hstart 1).trans ((run_setPending_cons (hcompleted s.takeStartBit hp rfl) 0).trans ?_)
    exact congrArg Host.Outcome.next (State.goodFrame_intoFrame (s := s.setPending []) hp s.receiver.framing none _ f)

/-- Settles O39: the characters up to the payload bring the frame to its check bytes, and these make the good frame,
which does what it does from HUNT. -/
theorem charactersMakeTheFrame : Obligations.CharactersMakeTheFrame := by
  intro f starts s hp hφ hlen
  obtain ⟨low, high, hframe, hcrc⟩ := hostFrame_spec f
  change Sys2Proof.core.run (characters starts (hostFrame f)).length (s.setPending (characters starts (hostFrame f))) = _
  rw [hframe]
  calc Sys2Proof.core.run _ _
    _ = _ := run_characters_body hp hφ f hlen [low, high]
    _ = _ := run_characters_cons (s := s.intoFrame _) hp rfl (fun t ht => State.takeCharacter_checkLow ht) [high]
    _ = _ := run_characters_checked (s := s.intoFrame _) hp rfl hcrc
    _ = .next ((s.setPending []).anyGoodFrame f) :=
      congrArg Host.Outcome.next (State.goodFrame_intoFrame (s := s.setPending []) hp _ _ _ f)
    _ = Sys2Proof.core.run 1 _ := (run_setPending_cons (exec_goodFrame f (s.setPending [])) 0).symm

end Sys2Proof.Machine
end

section
/-! The laws of the receive slots and of the frame in progress (O59): what they read of a state, and the changes of it that
keep them. -/

namespace Sys2Proof.Machine

/-! ## What the laws read (R156, R158, R160) -/

/-- The receive slots with their order of arrival, the frame in progress with its gap timer, and the slots of the replies
that wait or are on LTX. -/
structure LinkView where
  slots : Vector Slot 4
  arrivals : List SlotId
  framing : Framing
  gapTimer : Option Instant
  replySlots : List SlotId

/-- What the laws read of a state. -/
def State.linkView (s : State) : LinkView :=
  { slots := s.receiver.slots, arrivals := s.receiver.arrivals, framing := s.receiver.framing
    gapTimer := s.receiver.gapTimer, replySlots := s.transmitter.replySlots }

/-- The laws of the slots and of the frame in progress. -/
structure LinkView.Lawful (v : LinkView) : Prop where
  arrivals : v.arrivals.Nodup
  replies : v.replySlots.Nodup
  inUse : ∀ i : SlotId, i ∈ v.arrivals ↔ v.slots[i] ≠ .free
  inReply : ∀ i : SlotId, i ∈ v.replySlots ↔ v.slots[i] = .reply
  gap : v.gapTimer.isSome = true → v.framing ≠ .hunt
  framing : v.framing.lawful = true

theorem State.linkView_lawful_iff (s : State) : s.linkView.Lawful ↔ s.SlotsLawful ∧ s.receiver.Lawful :=
  ⟨fun h => ⟨⟨h.arrivals, h.replies, fun i => ⟨h.inUse i, h.inReply i⟩⟩, h.gap, h.framing⟩,
    fun ⟨⟨ha, hr, hs⟩, hg, hf⟩ => ⟨ha, hr, fun i => (hs i).1, fun i => (hs i).2, hg, hf⟩⟩

/-! ## The changes of a good frame and of a reply's end -/

namespace LinkView

variable {v : LinkView} {slot : SlotId}

/-- The receiver hunts (R156). -/
def hunts (v : LinkView) : LinkView := { v with framing := .hunt, gapTimer := none }

/-- A slot takes a frame, after every slot in use (R159). -/
def claims (v : LinkView) (slot : SlotId) (f : ReqFrame) : LinkView :=
  { v with slots := v.slots.set slot (.request f), arrivals := v.arrivals ++ [slot] }

/-- A slot passes to REPLY, and its reply is the newest (R174). -/
def answers (v : LinkView) (slot : SlotId) : LinkView :=
  { v with slots := v.slots.set slot .reply, replySlots := v.replySlots ++ [slot] }

/-- A slot is freed (R160). -/
def releases (v : LinkView) (slot : SlotId) : LinkView :=
  { v with slots := v.slots.set slot .free, arrivals := v.arrivals.filter (· != slot) }

/-- What a slot reads after one slot is written. -/
theorem getElem_set_slot (slots : Vector Slot 4) (slot i : SlotId) (x : Slot) :
    (slots.set slot x)[i] = if slot = i then x else slots[i] := by
  simp [Vector.getElem_set, Fin.ext_iff]

theorem Lawful.moved (h : v.Lawful) {φ : Framing} {gap : Option Instant} (hg : gap.isSome = true → φ ≠ .hunt)
    (hφ : φ.lawful = true) : { v with framing := φ, gapTimer := gap }.Lawful :=
  { h with gap := hg, framing := hφ }

theorem Lawful.hunts (h : v.Lawful) : v.hunts.Lawful := h.moved nofun rfl

/-- A FREE slot stands in no list, so that it enters the order of arrival once and no reply is its. -/
theorem Lawful.claims (h : v.Lawful) (hfree : v.slots[slot] = .free) (f : ReqFrame) : (v.claims slot f).Lawful := by
  have hunused : slot ∉ v.arrivals := fun hm => (h.inUse slot).mp hm hfree
  have hsilent : slot ∉ v.replySlots := fun hm => by simp [(h.inReply slot).mp hm] at hfree
  have hnodup : (v.arrivals ++ [slot]).Nodup := List.concat_eq_append ▸ h.arrivals.concat hunused
  refine { h with arrivals := hnodup, inUse := fun i => ?_, inReply := fun i => ?_ }
  all_goals
    simp only [LinkView.claims, getElem_set_slot]
    by_cases hi : slot = i
    · subst hi
      simp [hsilent]
    · simp [hi, Ne.symm hi, h.inUse, h.inReply]

/-- A slot in REQUEST is in use and no reply is its, so that its reply enters the queue once. -/
theorem Lawful.answers (h : v.Lawful) {f : ReqFrame} (hreq : v.slots[slot] = .request f) : (v.answers slot).Lawful := by
  have hused : slot ∈ v.arrivals := (h.inUse slot).mpr (by simp [hreq])
  have hsilent : slot ∉ v.replySlots := fun hm => by simp [(h.inReply slot).mp hm] at hreq
  have hnodup : (v.replySlots ++ [slot]).Nodup := List.concat_eq_append ▸ h.replies.concat hsilent
  refine { h with replies := hnodup, inUse := fun i => ?_, inReply := fun i => ?_ }
  all_goals
    simp only [LinkView.answers, getElem_set_slot]
    by_cases hi : slot = i
    · subst hi
      simp [hused]
    · simp [hi, Ne.symm hi, h.inUse, h.inReply]

/-- A slot whose reply has left LTX is freed: no other reply is its. -/
theorem Lawful.releases (h : v.Lawful) {rest : List SlotId} (hr : v.replySlots = slot :: rest) :
    ({ v with replySlots := rest }.releases slot).Lawful := by
  have hnodup : (slot :: rest).Nodup := hr ▸ h.replies
  have hothers : ∀ i, slot ≠ i → (i ∈ rest ↔ v.slots[i] = .reply) := fun i hi => by
    rw [← h.inReply, hr, List.mem_cons, or_iff_right (Ne.symm hi)]
  refine { h with arrivals := h.arrivals.filter _, replies := hnodup.of_cons, inUse := fun i => ?_, inReply := fun i => ?_ }
  all_goals
    simp only [LinkView.releases, getElem_set_slot]
    by_cases hi : slot = i
    · subst hi
      simp [hnodup.notMem]
    · simp [hi, Ne.symm hi, h.inUse, hothers i hi]

end LinkView

/-! ## Chains of changes -/

/-- The laws hold of `t` if they hold of `s`. -/
def State.KeepsLink (s t : State) : Prop := s.linkView.Lawful → t.linkView.Lawful

section
variable {s t u : State}

theorem State.KeepsLink.of_same (h : t.linkView = s.linkView) : s.KeepsLink t := fun hs => h ▸ hs

theorem State.KeepsLink.refl (s : State) : s.KeepsLink s := id

theorem State.KeepsLink.trans (h : s.KeepsLink t) (h' : t.KeepsLink u) : s.KeepsLink u := h' ∘ h

/-- The laws read the same of the state that a change starts from. -/
theorem State.KeepsLink.after (h : t.KeepsLink u) (he : t.linkView = s.linkView) : s.KeepsLink u :=
  (State.KeepsLink.of_same he).trans h

/-- A state that has the link of the reset state is lawful (R168, R169). -/
theorem State.KeepsLink.of_reset (h : t.linkView = State.reset.linkView) : s.KeepsLink t := fun _ =>
  h ▸ (State.linkView_lawful_iff _).mpr ⟨State.reset_slotsLawful, by decide⟩

end

end Sys2Proof.Machine
end

section
/-! What the operations and the requests make of the receive slots and of the frame in progress (O59). -/

namespace Sys2Proof.Machine

/-! ## The clock, the lines and the sources -/

section
variable (s : State)

theorem State.linkView_takeExpiries (es : List (TimerId × Tick)) : (s.takeExpiries es).linkView = s.linkView := by
  obtain ⟨src, a, h⟩ := s.takeExpiries_only es
  rw [h]
  rfl

theorem State.linkView_takeExpiry (e : TimerId × Tick) : (s.takeExpiry e).linkView = s.linkView :=
  s.linkView_takeExpiries [e]

theorem State.linkView_flushExpiries : s.flushExpiries.linkView = s.linkView :=
  State.linkView_takeExpiries (s.setDueExpiries []) _

theorem State.linkView_tickOnce : s.tickOnce.linkView = s.linkView :=
  (State.linkView_takeExpiries s.flushExpiries.advanceTick _).trans s.linkView_flushExpiries

theorem State.linkView_ticks (n : Nat) (s : State) : (State.ticks n s).linkView = s.linkView := by
  induction n generalizing s with
  | zero => rfl
  | succ n ih => exact (ih s.tickOnce).trans s.linkView_tickOnce

theorem State.linkView_tickFor (k : TimerId) : (s.tickFor k).linkView = s.linkView :=
  (State.linkView_takeExpiry (s.flushExpiries.advanceTick.setDueExpiries _) _).trans s.linkView_flushExpiries

theorem State.linkView_changeLevel (n : LineId) (level : Bool) : (s.changeLevel n level).linkView = s.linkView := by
  obtain ⟨ts, a, h⟩ := s.levelTaken_only n level
  rw [State.changeLevel_eq, h]
  rfl

theorem State.linkView_sampleLine (levels : BitVec 24) (n : LineId) : (s.sampleLine levels n).linkView = s.linkView := by
  unfold State.sampleLine
  dsimp only
  split
  · rfl
  · split
    · rfl
    · exact s.linkView_changeLevel n _

theorem State.linkView_stallSession (d : Deliv) (p : Params) (dn : Byte) :
    (s.stallSession d p dn).linkView = s.linkView := by
  obtain ⟨src, h⟩ := s.stallSession_only d p dn
  rw [h]
  rfl

theorem State.linkView_startAckDeadline (d : Deliv) (dn : Byte) : (s.startAckDeadline d dn).linkView = s.linkView := by
  obtain ⟨v, h⟩ := s.startAckDeadline_only d dn
  rw [h]
  rfl

theorem State.linkView_foldl {α : Type} {f : State → α → State} (hf : ∀ (t : State) a, (f t a).linkView = t.linkView)
    (l : List α) (s : State) : (l.foldl f s).linkView = s.linkView := by
  induction l generalizing s with
  | nil => rfl
  | cons a l ih => exact (ih _).trans (hf s a)

/-! ## Resets (R168, R169) -/

theorem State.linkView_resetAll (tick : Option Instant) (hello : Option Cause) :
    (s.resetAll tick hello).linkView = State.reset.linkView := rfl

theorem State.linkView_takeReset (scope : Scope) : (s.takeReset scope).linkView = State.reset.linkView := by
  cases scope with
  | full => rfl
  | delivery =>
    rw [State.takeReset, State.resetDelivery_eq]
    rfl
end

/-! ## Requests (R159, R160, R174) -/

section
variable (s : State)

theorem State.changeAdmission_transmitter (x : SourceId) (a : Admission) :
    (s.changeAdmission x a).transmitter = s.transmitter := by
  obtain ⟨src, ts, h⟩ := s.changeAdmission_only x a
  rw [h]
  rfl

theorem State.flushExpiries_transmitter : s.flushExpiries.transmitter = s.transmitter := by
  obtain ⟨src, a, h⟩ := (s.setDueExpiries []).takeExpiries_only s.timeUnit.dueExpiries
  rw [State.flushExpiries, h]
  rfl

theorem State.acceptOffer_transmitter (d : Deliv) (o : Offer) : (s.acceptOffer d o).transmitter = s.transmitter := by
  obtain ⟨src, ses, h⟩ := s.acceptOffer_only d o
  rw [h]
  rfl

theorem State.giveBack_transmitter (d : Deliv) (o : Offer) (n : Nat) :
    (s.giveBack d o n).transmitter = s.transmitter := by
  obtain ⟨src, ses, h⟩ := s.giveBack_only d o n
  rw [h]
  rfl

theorem State.closeSession_transmitter (d : Deliv) :
    (s.closeSession d).transmitter = { s.transmitter with stallOwed := s.transmitter.stallOwed.set d false } := by
  obtain ⟨src, h, -⟩ := s.closeSession_only d
  rw [h]
  rfl
end

/-- An owner leaves the transmitter but for the STALL flags, of which CLOSE clears one (R80). -/
theorem Request.owner_transmitter (r : Request) (σ : SessId) (payload : List Byte) (s : State) :
    ∃ owed, (r.owner σ payload s).next.transmitter = { s.transmitter with stallOwed := owed } := by
  cases r
  case setAdmission =>
    simp only [Request.owner, ownSetAdmission]
    split
    · exact ⟨_, rfl⟩
    · exact ⟨_, s.changeAdmission_transmitter _ _⟩
  case snapshot =>
    simp only [Request.owner, ownSnapshot]
    split
    · exact ⟨_, rfl⟩
    · exact ⟨_, s.flushExpiries_transmitter⟩
  case close =>
    simp only [Request.owner, ownClose, onDelivery]
    split
    · split
      · exact ⟨_, rfl⟩
      all_goals exact ⟨_, s.closeSession_transmitter _⟩
    · exact ⟨_, rfl⟩
  case accept =>
    simp only [Request.owner, ownAccept, onDelivery]
    split
    · split
      · exact ⟨_, rfl⟩
      · split
        · exact ⟨_, rfl⟩
        · exact ⟨_, rfl⟩
        · split
          · exact ⟨_, rfl⟩
          · exact ⟨_, s.acceptOffer_transmitter _ _⟩
    · exact ⟨_, rfl⟩
  case returnOffer =>
    simp only [Request.owner, ownReturn, onDelivery]
    split
    · split
      · exact ⟨_, rfl⟩
      · split
        · exact ⟨_, rfl⟩
        · exact ⟨_, rfl⟩
        · split
          · exact ⟨_, rfl⟩
          · exact ⟨_, s.giveBack_transmitter _ _ _⟩
    · exact ⟨_, rfl⟩
  case configSource | configLine | configTimer | startTimer | stopTimer | setTimebase | setAlert | reset =>
    simp only [Request.owner, ownConfigSource, ownConfigLine, ownConfigTimer, ownStartTimer, ownStopTimer, ownSetTimebase,
      ownSetAlert, ownReset]
    repeat' split
    all_goals exact ⟨_, rfl⟩
  case querySource | queryLines | queryTimer | readTime | querySession | readCapture | discardCapture =>
    simp only [Request.owner, ownQuerySource, ownQueryLines, ownQueryTimer, ownReadTime, ownQuerySession, ownReadCapture,
      ownDiscardCapture]
    repeat' split
    all_goals exact ⟨_, rfl⟩
  case openSession | setSession | resume | done | doneTop =>
    simp only [Request.owner, ownOpen, ownSetSession, ownResume, ownDone, ownDoneTop, onDelivery]
    repeat' split
    all_goals exact ⟨_, rfl⟩

/-- An owner changes no slot, no frame in progress and no reply. -/
theorem Request.owner_linkView (r : Request) (σ : SessId) (payload : List Byte) (s : State) :
    (r.owner σ payload s).next.linkView = s.linkView := by
  obtain ⟨owed, h⟩ := r.owner_transmitter σ payload s
  rw [State.linkView, h, Request.owner_receiver]
  rfl

/-- The owner that reception asks of a TYPE, a request's or an unknown one, changes none of them either. -/
theorem ownerOfCode_linkView (type : Byte) (σ : SessId) (payload : List Byte) (s : State) :
    (ownerOfCode type σ payload s).next.linkView = s.linkView := by
  unfold ownerOfCode
  cases Request.ofCode type with
  | some r => exact r.owner_linkView σ payload s
  | none => rfl

theorem State.linkView_queueReply (s : State) (r : Reply) : (s.queueReply r).linkView = s.linkView.answers r.slot := by
  simp [State.linkView, State.queueReply, State.setSlot, LinkView.answers, Transmitter.replySlots]

/-- An execution makes the one reply, whatever it answers. -/
theorem State.linkView_execute {owner : Owner}
    (h : ∀ σ payload t, (owner σ payload t).next.linkView = State.linkView t) (s : State) (slot : SlotId) (f : ReqFrame) :
    (s.execute owner slot f).linkView = s.linkView.answers slot := by
  have hplace : ∀ (a : Answer) σ, a.next.linkView = s.linkView →
      (a.place slot σ f).linkView = s.linkView.answers slot := fun a σ ha => by
    rw [← ha]
    exact State.linkView_queueReply a.next _
  unfold State.execute
  split
  · dsimp only
    split
    · exact s.linkView_queueReply _
    · refine hplace _ _ ?_
      unfold answerOf
      split
      · rfl
      · exact h _ _ _
  · exact s.linkView_queueReply _

/-- A good frame is not read, is an overrun, or claims a FREE slot, which waits or passes to REPLY. -/
theorem State.keepsLink_goodFrame {owner : Owner}
    (h : ∀ σ payload t, (owner σ payload t).next.linkView = State.linkView t) (s : State) (f : ReqFrame) :
    s.KeepsLink (s.goodFrame owner f) := by
  intro hs
  cases hrun : s.isRunning with
  | false =>
    rw [s.goodFrame_held owner f hrun]
    exact hs
  | true =>
    cases hslot : s.freeSlot with
    | none =>
      rw [s.goodFrame_overrun owner f hrun hslot]
      exact hs.hunts
    | some slot =>
      have hclaimed : (s.linkView.hunts.claims slot f).Lawful := hs.hunts.claims (State.free_of_freeSlot hslot) f
      cases hreset : s.dispatcher.pendingReset with
      | some scope =>
        rw [s.goodFrame_waits owner f slot scope hrun hslot hreset]
        exact hclaimed
      | none =>
        rw [s.goodFrame_executes owner f slot hrun hslot hreset, State.linkView_execute h]
        exact hclaimed.answers (f := f) (by simp [LinkView.claims])

theorem State.keepsLink_request (s : State) (r : Request) (f : ReqFrame) : s.KeepsLink (s.goodFrame r.owner f) :=
  s.keepsLink_goodFrame r.owner_linkView f

theorem State.keepsLink_anyGoodFrame (s : State) (f : ReqFrame) : s.KeepsLink (s.anyGoodFrame f) :=
  s.keepsLink_goodFrame (ownerOfCode_linkView f.type) f

end Sys2Proof.Machine
end

section
/-! Characters, frames on LTX and every command keep the laws of the receive slots and of the frame in progress (O59). -/

namespace Sys2Proof.Machine

/-! ## Characters (R156, R157, R158) -/

theorem State.keepsLink_takeFault (s : State) : s.KeepsLink s.takeFault := fun hs => hs.hunts

theorem State.keepsLink_takeStartBit (s : State) : s.KeepsLink s.takeStartBit := fun hs => hs.moved nofun hs.framing

/-- A character inside a frame starts the gap timer, and keeps the law of the frame in progress if the bytes taken do. -/
theorem State.keepsLink_intoFrame (s : State) {φ : Framing} (hin : φ ≠ .hunt)
    (hφ : s.receiver.framing.lawful = true → φ.lawful = true) : s.KeepsLink (s.intoFrame φ) :=
  fun hs => hs.moved (fun _ => hin) (hφ hs.framing)

/-- Each row of the table of R156: LEN and the count of payload bytes stay in their bounds. -/
theorem State.keepsLink_takeCharacter (s : State) (v : Byte) : s.KeepsLink (s.takeCharacter v) := by
  cases h : s.receiver.framing with
  | hunt =>
    by_cases hv : v = Config.sync
    · exact State.takeCharacter_sync h hv ▸ s.keepsLink_intoFrame nofun fun _ => rfl
    · rw [State.takeCharacter_hunt h hv]
      exact .refl s
  | headerLen =>
    by_cases hv : v.toNat ≤ 48
    · exact State.takeCharacter_len h hv ▸ s.keepsLink_intoFrame nofun fun _ => decide_eq_true hv
    · exact State.takeCharacter_lenAbove h (Nat.lt_of_not_le hv) ▸ s.keepsLink_takeFault
  | headerSess len => exact State.takeCharacter_sess h ▸ s.keepsLink_intoFrame nofun (by rw [h]; exact id)
  | headerType len sess => exact State.takeCharacter_type h ▸ s.keepsLink_intoFrame nofun (by rw [h]; exact id)
  | headerTag len sess type =>
    rw [State.takeCharacter_tag h]
    split
    · rename_i hzero
      exact s.keepsLink_intoFrame nofun fun _ => by simp [Framing.lawful, hzero]
    · rename_i hnonzero
      refine s.keepsLink_intoFrame nofun fun hl => ?_
      have hpos : 0 < len.toNat := Nat.pos_of_ne_zero fun e => hnonzero (BitVec.eq_of_toNat_eq e)
      simpa [h, Framing.lawful, hpos] using hl
  | payload len sess type tag taken =>
    rw [State.takeCharacter_payload h]
    split
    · rename_i hmore
      exact s.keepsLink_intoFrame nofun fun hl => by
        simp only [h, Framing.lawful, Bool.and_eq_true, decide_eq_true_eq] at hl
        simp [Framing.lawful, hl.1, hmore]
    · rename_i hlast
      exact s.keepsLink_intoFrame nofun fun hl => by
        simp only [h, Framing.lawful, Bool.and_eq_true, decide_eq_true_eq] at hl
        simp [Framing.lawful, hl.1]
        omega
  | checkLow len sess type tag taken =>
    exact State.takeCharacter_checkLow h ▸ s.keepsLink_intoFrame nofun (by rw [h]; exact id)
  | checkHigh len sess type tag taken low =>
    by_cases hv : v ++ low = crc16 (len :: sess :: type :: tag :: taken)
    · exact State.takeCharacter_checked h hv ▸ s.keepsLink_anyGoodFrame _
    · exact State.takeCharacter_disagrees h hv ▸ s.keepsLink_takeFault

/-! ## Frames on LTX (R163, R164, R166) -/

theorem Transmitter.replySlots_of_idle {t : Transmitter} (h : t.frame = none) :
    t.replySlots = t.replyQueue.map Reply.slot := by
  simp [Transmitter.replySlots, h]

theorem Transmitter.replySlots_of_reply {t : Transmitter} {f : TxFrame} {slot : SlotId} {starts : Bool}
    (h : t.frame = some f) (hk : f.kind = .reply slot starts) :
    t.replySlots = slot :: t.replyQueue.map Reply.slot := by
  obtain ⟨kind, bytes⟩ := f
  obtain rfl : kind = .reply slot starts := hk
  simp [Transmitter.replySlots, h]

theorem Transmitter.replySlots_of_notice {t : Transmitter} {f : TxFrame} (h : t.frame = some f)
    (hk : ∀ slot starts, f.kind ≠ .reply slot starts) : t.replySlots = t.replyQueue.map Reply.slot := by
  obtain ⟨kind, bytes⟩ := f
  cases kind with
  | reply slot starts => exact absurd rfl (hk slot starts)
  | evt | hello | link | stall => simp [Transmitter.replySlots, h]

/-- A pick moves the oldest reply from the queue to LTX, or starts a frame that is no reply. -/
theorem State.linkView_pickFrame {s : State} (hf : s.transmitter.frame = none) : s.pickFrame.linkView = s.linkView := by
  have hidle := Transmitter.replySlots_of_idle hf
  unfold State.pickFrame
  split
  · rename_i r rest hr
    rw [State.linkView, State.linkView, hidle, hr]
    rfl
  · split
    · rw [State.linkView, State.linkView, hidle]
      rfl
    · split
      · rw [State.linkView, State.linkView, hidle]
        rfl
      · split
        · rw [State.linkView, State.linkView, hidle]
          rfl
        · obtain ⟨h, -⟩ | ⟨d, -, o, s', ha, h⟩ := s.poll_cases (pollOrder s.transmitter.rrPointer)
          · rw [h]
          · rw [h]
            rw [State.linkView, State.linkView, hidle]
            obtain ⟨-, ⟨q, -, -, rfl⟩ | ⟨x, -, -, -, rfl⟩⟩ := State.pollAnswer_cases ha
            all_goals rfl

theorem State.linkView_frameGone (s : State) :
    s.frameGone.linkView = { s.linkView with replySlots := s.transmitter.replyQueue.map Reply.slot } := rfl

theorem State.linkView_releaseSlot (s : State) (slot : SlotId) : (s.releaseSlot slot).linkView = s.linkView.releases slot :=
  rfl

/-- The end of a reply frees its slot, before the pick or after it, or its RESET takes effect (R161, R167, R184). -/
theorem State.linkView_replyEnded {s : State} (hf : s.transmitter.frame = none) (slot : SlotId) (starts : Bool)
    (order : EndOrder) : (s.replyEnded slot starts order).linkView = s.linkView.releases slot ∨
      (s.replyEnded slot starts order).linkView = State.reset.linkView := by
  unfold State.replyEnded
  split
  · refine .inr ((State.linkView_pickFrame (State.takeReset_frame _ _)).trans (State.linkView_takeReset _ _))
  · refine .inl ?_
    cases order with
    | freeThenPick => exact State.linkView_pickFrame hf
    | pickThenFree => rw [State.linkView_releaseSlot, State.linkView_pickFrame hf]

theorem State.keepsLink_frameEnded {s : State} {f : TxFrame} (hf : s.transmitter.frame = some f) (order : EndOrder) :
    s.KeepsLink (s.frameEnded f.kind order) := by
  have hgone : (∀ slot starts, f.kind ≠ .reply slot starts) → s.frameGone.linkView = s.linkView := fun hk => by
    rw [State.linkView_frameGone, ← Transmitter.replySlots_of_notice hf hk]
    rfl
  cases hk : f.kind with
  | reply slot starts =>
    obtain h | h := State.linkView_replyEnded (s := s.frameGone) rfl slot starts order
    · intro hs
      have hfreed := hs.releases (Transmitter.replySlots_of_reply hf hk)
      exact h ▸ hfreed
    · exact .of_reset h
  | evt d dn =>
    have hstarted := s.frameGone.linkView_startAckDeadline d dn
    have hidle : (s.frameGone.startAckDeadline d dn).transmitter.frame = none := by
      rw [State.startAckDeadline_transmitter]
      rfl
    exact .of_same ((State.linkView_pickFrame hidle).trans (hstarted.trans (hgone (by simp [hk]))))
  | hello | link | stall d =>
    exact .of_same ((State.linkView_pickFrame (s := s.frameGone) rfl).trans (hgone (by simp [hk])))

/-! ## The commands (R156, R164, R166, R168) -/

section
variable {s t : State}

/-- A law kept by the state that the command answers. -/
theorem State.KeepsLink.of_next {u : State} (h : (Host.Outcome.next t : Host.Outcome State Fault Refusal) = .next u)
    (ht : s.KeepsLink t) : s.KeepsLink u := by
  cases h
  exact ht

/-- A command that does one thing under its condition and nothing otherwise. -/
theorem State.KeepsLink.of_ite {p : Prop} [Decidable p] {u : State}
    (h : (if p then (.next u : Host.Outcome State Fault Refusal) else .next s) = .next t) (hu : s.KeepsLink u) :
    s.KeepsLink t := by
  split at h
  · exact .of_next h hu
  · exact .of_next h (.refl s)

theorem execCharacterCompleted_keepsLink {v : Byte} {moment : CharacterMoment}
    (h : execCharacterCompleted v moment s = .next t) : s.KeepsLink t := by
  unfold execCharacterCompleted at h
  split at h
  · split at h
    · exact .of_next h s.keepsLink_takeStartBit
    · exact .of_next h (s.keepsLink_takeCharacter v)
    · split at h
      · exact .of_next h (.refl s)
      · exact .of_next h s.keepsLink_takeFault
  · exact .of_next h (.refl s)

theorem execGapExceeded_keepsLink (h : execGapExceeded s = .next t) : s.KeepsLink t := by
  unfold execGapExceeded at h
  split at h
  · exact .of_next h (State.keepsLink_takeFault (s.reach _))
  · exact .of_next h (.refl s)

theorem execPick_keepsLink (h : execPick s = .next t) : s.KeepsLink t := by
  unfold execPick at h
  split at h
  · rename_i hidle
    exact .of_next h (.of_same (State.linkView_pickFrame hidle.2))
  · exact .of_next h (.refl s)

theorem execEndOfFrame_keepsLink {order : EndOrder} (h : execEndOfFrame order s = .next t) : s.KeepsLink t := by
  unfold execEndOfFrame at h
  split at h
  · rename_i f _ hf
    exact .of_next h (State.keepsLink_frameEnded hf order)
  · exact .of_next h (.refl s)

theorem execAckDeadlineExpiry_keepsLink {d : Deliv} {dn : Byte} (h : execAckDeadlineExpiry d dn s = .next t) :
    s.KeepsLink t := by
  unfold execAckDeadlineExpiry at h
  split at h
  · rename_i p o due _ _ _
    dsimp only at h
    split at h
    · exact .of_next h (.of_same rfl)
    · exact .of_next h (.of_same ((s.reach due).linkView_stallSession d p dn))
  · exact .of_next h (.refl s)

theorem execHoldExpiry_keepsLink {x : SourceId} (h : execHoldExpiry x s = .next t) : s.KeepsLink t := by
  unfold execHoldExpiry at h
  split at h
  · exact .of_next h (.of_same rfl)
  · exact .of_next h (.refl s)

theorem execRenewalGapEnd_keepsLink (h : execRenewalGapEnd s = .next t) : s.KeepsLink t := by
  unfold execRenewalGapEnd at h
  split at h
  · exact .of_next h (.of_same rfl)
  · exact .of_next h (.refl s)

theorem execTimerExpiry_keepsLink {k : TimerId} (h : execTimerExpiry k s = .next t) : s.KeepsLink t := by
  unfold execTimerExpiry at h
  split at h
  · split at h
    · exact .of_next h (.of_same (State.linkView_takeExpiry (s.setDueExpiries _) _))
    · exact .of_ite h (.of_same ((State.linkView_tickFor _ k).trans (s.linkView_ticks _)))
  · exact .of_next h (.refl s)

theorem execLineSample_keepsLink {levels : BitVec 24} (h : execLineSample levels s = .next t) : s.KeepsLink t := by
  unfold execLineSample at h
  dsimp only at h
  split at h
  · exact .of_next h (.of_same (State.linkView_foldl (fun u n => u.linkView_sampleLine levels n) _ _))
  · exact .of_next h (.of_same (State.linkView_foldl (f := fun u n => u.sampleInReset levels n) (fun _ _ => rfl) _ _))

theorem execPowerOnResetEnd_keepsLink {br1 br0 : Bool} (h : execPowerOnResetEnd br1 br0 s = .next t) :
    s.KeepsLink t := by
  unfold execPowerOnResetEnd at h
  split at h
  · exact .of_next h (.of_reset rfl)
  · exact .of_next h (.of_same rfl)
  all_goals exact .of_next h (.refl s)

theorem execRstnAssert_keepsLink (h : execRstnAssert s = .next t) : s.KeepsLink t := by
  unfold execRstnAssert at h
  split at h
  · exact .of_next h (.of_reset rfl)
  · exact .of_next h (.of_same rfl)
  · exact .of_next h (.refl s)

theorem execRstnRelease_keepsLink {br1 br0 : Bool} (h : execRstnRelease br1 br0 s = .next t) : s.KeepsLink t := by
  unfold execRstnRelease at h
  split at h
  · exact .of_next h (.of_reset rfl)
  · split at h
    · exact .of_next h (.of_reset rfl)
    · exact .of_next h (.of_same rfl)
  all_goals exact .of_next h (.refl s)

/-- Every command keeps the laws: a request and a character by what reception makes of the slots, PICK and END_OF_FRAME by
what becomes of the replies, the resets by their reset values, and every other command leaves the link alone. -/
theorem exec_keepsLink {c : Instr} (h : exec c s = .next t) : s.KeepsLink t := by
  cases c with
  | configSource => exact .of_next h (s.keepsLink_request .configSource _)
  | setAdmit => exact .of_next h (s.keepsLink_request .setAdmission _)
  | configLine => exact .of_next h (s.keepsLink_request .configLine _)
  | configTimer => exact .of_next h (s.keepsLink_request .configTimer _)
  | startTimer => exact .of_next h (s.keepsLink_request .startTimer _)
  | stopTimer => exact .of_next h (s.keepsLink_request .stopTimer _)
  | setTimebase => exact .of_next h (s.keepsLink_request .setTimebase _)
  | setAlert => exact .of_next h (s.keepsLink_request .setAlert _)
  | reset => exact .of_next h (s.keepsLink_request .reset _)
  | querySource => exact .of_next h (s.keepsLink_request .querySource _)
  | queryLines => exact .of_next h (s.keepsLink_request .queryLines _)
  | queryTimer => exact .of_next h (s.keepsLink_request .queryTimer _)
  | readTime => exact .of_next h (s.keepsLink_request .readTime _)
  | querySession => exact .of_next h (s.keepsLink_request .querySession _)
  | snapshot => exact .of_next h (s.keepsLink_request .snapshot _)
  | readCapture => exact .of_next h (s.keepsLink_request .readCapture _)
  | discardCapture => exact .of_next h (s.keepsLink_request .discardCapture _)
  | openSession => exact .of_next h (s.keepsLink_request .openSession _)
  | close => exact .of_next h (s.keepsLink_request .close _)
  | setSession => exact .of_next h (s.keepsLink_request .setSession _)
  | resume => exact .of_next h (s.keepsLink_request .resume _)
  | accept => exact .of_next h (s.keepsLink_request .accept _)
  | returnOffer => exact .of_next h (s.keepsLink_request .returnOffer _)
  | done => exact .of_next h (s.keepsLink_request .done _)
  | doneTop => exact .of_next h (s.keepsLink_request .doneTop _)
  | unknownType => exact .of_next h (s.keepsLink_anyGoodFrame _)
  | overrun sess tag => exact .of_ite h fun hs => hs.hunts
  | frameFault cause => cases cause <;> exact .of_ite h s.keepsLink_takeFault
  | gapExceeded => exact execGapExceeded_keepsLink h
  | pick => exact execPick_keepsLink h
  | endOfFrame order => exact execEndOfFrame_keepsLink h
  | ackDeadlineExpiry d dn => exact execAckDeadlineExpiry_keepsLink h
  | holdExpiry x => exact execHoldExpiry_keepsLink h
  | renewalGapEnd => exact execRenewalGapEnd_keepsLink h
  | tick => exact .of_ite h (.of_same s.linkView_tickOnce)
  | timerExpiry k => exact execTimerExpiry_keepsLink h
  | occurrence n level => exact .of_ite h (.of_same (s.linkView_changeLevel n level))
  | assertion n =>
    simp only [exec, execAssertion] at h
    split at h
    · exact .of_ite h (.of_same (s.linkView_changeLevel n _))
    · exact .of_next h (.refl s)
  | deassertion n =>
    simp only [exec, execDeassertion] at h
    split at h
    · exact .of_ite h (.of_same (s.linkView_changeLevel n _))
    · exact .of_next h (.refl s)
  | powerOn => exact .of_next h (.of_reset rfl)
  | powerOnResetEnd br1 br0 => exact execPowerOnResetEnd_keepsLink h
  | rstnAssert => exact execRstnAssert_keepsLink h
  | rstnRelease br1 br0 => exact execRstnRelease_keepsLink h
  | lineSample levels => exact execLineSample_keepsLink h
  | characterCompleted v moment => exact execCharacterCompleted_keepsLink h
end

/-- Settles O59: a step runs the command at the front of the queue, which the laws do not read, and every command keeps
them together. -/
theorem receiverLawsKept : Obligations.ReceiverLawsKept := by
  intro s t hslots hreceiver h
  have hkeeps : s.KeepsLink t := by
    unfold step at h
    split at h
    · exact .of_next h (.refl s)
    · exact (exec_keepsLink h).after rfl
  exact t.linkView_lawful_iff.mp (hkeeps (s.linkView_lawful_iff.mpr ⟨hslots, hreceiver⟩))

end Sys2Proof.Machine
end

section
/-! The checks of a header and the replay of a cached answer (O5, O9), and what a request that is taken or refused changes
(O8, O23), with the step itself (O1). -/

namespace Sys2Proof.Machine

/-! ## The step -/

/-- Settles O1: the step reads the queue and nothing else, and the queue with its front removed is the rest. -/
theorem stepRunsFrontCommand : Obligations.StepRunsFrontCommand :=
  ⟨fun _ _ _ => rfl, fun _ => rfl⟩

/-! ## Steps 1, 3 and 4 of R176 -/

/-- The sessions on which a request fails step 3 of R176 (R175). -/
theorem Request.allowedOn_eq_false_iff (r : Request) (σ : SessId) :
    r.allowedOn σ = false ↔ (r.sessions = .management ∧ σ ≠ 0) ∨ (r.sessions = .delivery ∧ σ = 0) := by
  cases h : r.sessions <;> simp [Request.allowedOn, h]

/-- The sessions on which a request passes step 3 of R176 (R175). -/
theorem Request.allowedOn_iff (r : Request) (σ : SessId) :
    r.allowedOn σ = true ↔ r.sessions = .anySession ∨ (r.sessions = .management ↔ σ = 0) := by
  cases h : r.sessions <;> simp [Request.allowedOn, h]

/-- A TYPE of the table fails no step before the session and the length. -/
theorem Request.headerRefusal_code (r : Request) (σ : SessId) (payload : List Byte) :
    headerRefusal σ r.code payload =
      if r.allowedOn σ = false then some .wrongSession
      else if payload.length ≠ r.payloadLen then some .badLength
      else none := by
  simp [headerRefusal]

/-- A request that fails one of steps 2 to 4 of R176 is answered with that step's status, and nothing else changes. -/
theorem Request.exec_of_headerRefusal {s : State} {slot : SlotId} {r : Request} {σ : SessId} {tag : Byte}
    {payload : List Byte} {status : Status} (h : s.canTake σ r.code tag slot)
    (hr : headerRefusal σ r.code payload = some status) :
    exec (r.command (byteOf σ.val) tag payload) s = .next (s.answered slot σ r.code tag status []) := by
  rw [Request.exec_command, State.goodFrame_refused r.owner h rfl hr]

/-- Settles O5: step 1 stands before the caches, step 3 before step 4, and no owner is asked. -/
theorem headerChecks : Obligations.HeaderChecks := by
  intro r tag payload slot s
  refine ⟨fun sess h hsess => ?_, fun σ h => ⟨fun hwrong => ?_, fun hallowed hlen => ?_⟩⟩
  · rw [Request.exec_command, State.goodFrame_badSession r.owner _ h hsess]
  · refine Request.exec_of_headerRefusal h ?_
    rw [Request.headerRefusal_code, if_pos ((r.allowedOn_eq_false_iff σ).mpr hwrong)]
  · have hpass : r.allowedOn σ = true := (r.allowedOn_iff σ).mpr hallowed
    refine Request.exec_of_headerRefusal h ?_
    rw [Request.headerRefusal_code, if_neg (by simp [hpass]), if_pos hlen]

/-! ## Replays (R180) -/

/-- Execution of a request whose session's cache holds an answer to its TYPE and TAG: neither the header's other steps nor
the owner is asked. -/
theorem State.execute_replays (s : State) (owner : Owner) (slot : SlotId) (f : ReqFrame) {σ : SessId} {c : CacheEntry}
    (hσ : f.sess.toNat = σ.val) (hc : s.cachedAnswer σ f.type f.tag = some c) :
    s.execute owner slot f =
      s.queueReply
        { slot := slot, sess := f.sess, tag := f.tag, type := f.type, status := c.status, contents := c.contents
          startsReset := false } := by
  have hlt : f.sess.toNat < 5 := hσ ▸ σ.isLt
  have hid : (⟨f.sess.toNat, hlt⟩ : SessId) = σ := Fin.ext hσ
  simp only [State.execute, hlt, ↓reduceDIte, hid, hc]

/-- A good frame whose answer its session's cache holds is replayed, whatever owner its TYPE has. -/
theorem State.goodFrame_replays {s : State} {slot : SlotId} {σ : SessId} {c : CacheEntry} (owner : Owner) (f : ReqFrame)
    (h : s.canReceive slot) (hσ : f.sess = byteOf σ.val) (hc : s.dispatcher.caches[σ] = some c) (htype : c.type = f.type)
    (htag : c.tag = f.tag) : s.goodFrame owner f = s.replied slot f.sess f.type f.tag c.status c.contents := by
  have hhit : s.cachedAnswer σ f.type f.tag = some c := by simp [State.cachedAnswer, hc, htype, htag]
  have hclaimed : (s.hunt.claimSlot slot f).cachedAnswer σ f.type f.tag = some c := hhit
  rw [State.goodFrame_executes s owner f slot (State.isRunning_iff.mpr h.1) (State.freeSlot_of_canReceive h) h.2.1,
    State.execute_replays _ owner slot f (hσ ▸ byteOf_session σ) hclaimed]
  simp only [State.queueReply, State.replied, State.setSlot, State.claimSlot, State.hunt, State.setReceiver,
    State.setTransmitter, Vector.set_set]

/-- Settles O9: a request's frame and an unknown one differ in their owner alone, and a replay asks none. -/
theorem replayAnswersFromCache : Obligations.ReplayAnswersFromCache := by
  refine ⟨fun r σ tag payload slot s c h hc htype htag => ?_, fun type σ tag payload slot s c h hc htype htag => ?_⟩
  · rw [Request.exec_command, State.goodFrame_replays r.owner _ h rfl hc htype htag]
  · rw [exec_unknownType, State.anyGoodFrame, State.goodFrame_replays _ _ h rfl hc htype htag]

/-! ## RESET (R182) -/

/-- Settles O23: the owner of RESET marks the dispatcher and answers with the scope. -/
theorem resetTakes : Obligations.ResetTakes := by
  intro scope tag slot s h
  have howner : ownReset 0 [scope.code] s =
      { status := .ok, contents := [scope.code], next := s.awaitReset scope, startsReset := true } := by
    simp only [ownReset, readScope, scopeField_code]
  exact Request.exec_of_owner (r := .reset) (σ := 0) h rfl rfl howner

/-! ## What an owner can answer (R177) -/

/-- An answer of an owner that found the state `s`: a refusal, HELD, which leaves `s` too, or OK, which leaves the caches
to the dispatcher. -/
inductive Answer.From (s : State) : Answer → Prop
  | refused (status : Status) : From s (.refuse status s)
  | held (contents : List Byte) : From s { status := .held, contents := contents, next := s }
  | taken (contents : List Byte) (t : State) (startsReset : Bool) (h : t.dispatcher.caches = s.dispatcher.caches) :
      From s { status := .ok, contents := contents, next := t, startsReset := startsReset }

section
variable {s t : State} {a b : Answer}

theorem Answer.From.caches (h : a.From s) : a.next.dispatcher.caches = s.dispatcher.caches := by
  cases h with
  | refused | held => rfl
  | taken _ _ _ h => exact h

/-- An answer that is not OK leaves the state and starts no reset, and one that is not HELD either says nothing. -/
theorem Answer.From.of_not_ok (h : a.From s) (hs : a.status ≠ .ok) :
    a.next = s ∧ a.startsReset = false ∧ (a.status ≠ .held → a.contents = []) := by
  cases h with
  | refused => exact ⟨rfl, rfl, fun _ => rfl⟩
  | held => exact ⟨rfl, rfl, fun hh => absurd rfl hh⟩
  | taken => exact absurd rfl hs

/-- An effect that leaves the whole dispatcher. -/
theorem Answer.From.ok {contents : List Byte} (h : t.dispatcher = s.dispatcher) : (Answer.ok contents t).From s :=
  .taken contents t false (congrArg Dispatcher.caches h)

theorem Answer.From.ite {c : Prop} [Decidable c] (ha : a.From s) (hb : b.From s) : (if c then a else b).From s := by
  split
  · exact ha
  · exact hb

theorem onDelivery_from {f : Deliv → List Byte → State → Answer} (h : ∀ d payload, (f d payload s).From s) (σ : SessId)
    (payload : List Byte) : (onDelivery f σ payload s).From s := by
  unfold onDelivery
  split
  · exact h _ _
  · exact .refused _
end

/-! ### The operations leave the dispatcher -/

section
variable (s : State)

theorem State.changeAdmission_dispatcher (x : SourceId) (a : Admission) :
    (s.changeAdmission x a).dispatcher = s.dispatcher := by
  obtain ⟨src, ts, h⟩ := s.changeAdmission_only x a
  rw [h]
  rfl

theorem State.flushExpiries_dispatcher : s.flushExpiries.dispatcher = s.dispatcher := by
  obtain ⟨src, a, h⟩ := (s.setDueExpiries []).takeExpiries_only s.timeUnit.dueExpiries
  rw [State.flushExpiries, h]
  rfl

theorem State.acceptOffer_dispatcher (d : Deliv) (o : Offer) : (s.acceptOffer d o).dispatcher = s.dispatcher := by
  obtain ⟨src, ses, h⟩ := s.acceptOffer_only d o
  rw [h]
  rfl

theorem State.giveBack_dispatcher (d : Deliv) (o : Offer) (n : Nat) : (s.giveBack d o n).dispatcher = s.dispatcher := by
  obtain ⟨src, ses, h⟩ := s.giveBack_only d o n
  rw [h]
  rfl

theorem State.closeSession_dispatcher (d : Deliv) : (s.closeSession d).dispatcher = s.dispatcher := by
  obtain ⟨src, h, -⟩ := s.closeSession_only d
  rw [h]
  rfl
end

/-! ### The owners -/

/-- Every owner refuses, answers HELD, or takes the request without a write to a cache. -/
theorem Request.owner_from (r : Request) (σ : SessId) (payload : List Byte) (s : State) :
    (r.owner σ payload s).From s := by
  cases r
  case configSource | configLine | setTimebase =>
    simp only [Request.owner, ownConfigSource, ownConfigLine, ownSetTimebase]
    split
    · exact .refused _
    · exact .ite (.ok rfl) (.refused _)
  case configTimer =>
    simp only [Request.owner, ownConfigTimer]
    split
    · exact .refused _
    · exact .ite (.ok rfl) (.ite (.ok rfl) (.refused _))
  case setAdmission =>
    simp only [Request.owner, ownSetAdmission]
    split
    · exact .refused _
    · exact .ok (s.changeAdmission_dispatcher _ _)
  case startTimer | stopTimer | setAlert =>
    simp only [Request.owner, ownStartTimer, ownStopTimer, ownSetAlert]
    split
    · exact .refused _
    · exact .ok rfl
  case reset =>
    simp only [Request.owner, ownReset]
    split
    · exact .refused _
    · exact .taken _ _ true rfl
  case querySource | queryTimer | querySession =>
    simp only [Request.owner, ownQuerySource, ownQueryTimer, ownQuerySession]
    split
    · exact .refused _
    · exact .ok rfl
  case queryLines | readTime => exact .ok rfl
  case snapshot =>
    simp only [Request.owner, ownSnapshot]
    split
    · exact .held _
    · exact .ok s.flushExpiries_dispatcher
  case readCapture =>
    simp only [Request.owner, ownReadCapture]
    split
    · exact .refused _
    · split
      · exact .refused _
      · exact .ite (.ok rfl) (.refused _)
  case discardCapture =>
    simp only [Request.owner, ownDiscardCapture]
    split
    · exact .refused _
    · exact .ite (.ok rfl) (.refused _)
  case openSession =>
    simp only [Request.owner, ownOpen]
    refine onDelivery_from (fun d payload => ?_) σ payload
    split
    · exact .refused _
    · split
      · exact .ok rfl
      all_goals exact .refused _
  case close =>
    simp only [Request.owner, ownClose]
    refine onDelivery_from (fun d payload => ?_) σ payload
    split
    · exact .refused _
    all_goals exact .ok (s.closeSession_dispatcher d)
  case setSession =>
    simp only [Request.owner, ownSetSession]
    refine onDelivery_from (fun d payload => ?_) σ payload
    split
    · exact .refused _
    · split
      · exact .refused _
      all_goals exact .ite (.refused _) (.ok rfl)
  case resume =>
    simp only [Request.owner, ownResume]
    refine onDelivery_from (fun d payload => ?_) σ payload
    split
    · exact .refused _
    · exact .refused _
    · exact .ok rfl
  case accept =>
    simp only [Request.owner, ownAccept]
    refine onDelivery_from (fun d payload => ?_) σ payload
    split
    · exact .refused _
    · split
      · exact .refused _
      · exact .refused _
      · split
        · exact .refused _
        · exact .ok (s.acceptOffer_dispatcher d _)
  case returnOffer =>
    simp only [Request.owner, ownReturn]
    refine onDelivery_from (fun d payload => ?_) σ payload
    split
    · exact .refused _
    · split
      · exact .refused _
      · exact .refused _
      · split
        · exact .refused _
        · exact .ok (s.giveBack_dispatcher d _ _)
  case done =>
    simp only [Request.owner, ownDone]
    refine onDelivery_from (fun d payload => ?_) σ payload
    split
    · exact .refused _
    · split
      · exact .refused _
      all_goals exact .ite (.ok rfl) (.refused _)
  case doneTop =>
    simp only [Request.owner, ownDoneTop]
    refine onDelivery_from (fun d payload => ?_) σ payload
    split
    · exact .refused _
    all_goals
      split
      · exact .refused _
      · exact .ok rfl

/-! ## One reply per request (R174, R177, R179) -/

/-- A request fails one of steps 2 to 4 of R176, or it is one for its owner: on an allowed session and of the right
length. -/
theorem Request.headerRefusal_or_owner (r : Request) (σ : SessId) (payload : List Byte) :
    (∃ status, headerRefusal σ r.code payload = some status) ∨
      (r.allowedOn σ = true ∧ payload.length = r.payloadLen) := by
  rw [Request.headerRefusal_code]
  cases r.allowedOn σ with
  | false => exact .inl ⟨_, rfl⟩
  | true =>
    by_cases hlen : payload.length = r.payloadLen
    · exact .inr ⟨rfl, hlen⟩
    · exact .inl ⟨_, if_pos hlen⟩

/-- Settles O8: a header's refusal is answered on the state as it stood, and else the owner's answer is placed, whose state
has the reply queue, the receiver and the caches that the request found. -/
theorem refusedChangesNothing : Obligations.RefusedChangesNothing := by
  intro r σ tag payload slot s h
  obtain ⟨status, hrefused⟩ | ⟨hallowed, hlen⟩ := r.headerRefusal_or_owner σ payload
  · exact ⟨s, status, [], false, Request.exec_of_headerRefusal h hrefused, rfl, rfl, rfl,
      fun _ => ⟨rfl, rfl, fun _ => rfl⟩⟩
  · have hfrom := r.owner_from σ payload s
    obtain ⟨owed, htransmitter⟩ := r.owner_transmitter σ payload s
    exact ⟨_, _, _, _, r.exec_taken σ tag payload h hallowed hlen, by rw [htransmitter],
      Request.owner_receiver s r σ payload, hfrom.caches, hfrom.of_not_ok⟩

end Sys2Proof.Machine
end

section
/-! Every command completes in every state, and the queue of the commands that wait is as it was (O2). -/

namespace Sys2Proof.Machine

/-! ## Operations leave the queue -/

section
variable (s : State)

theorem State.changeAdmission_pending (x : SourceId) (a : Admission) : (s.changeAdmission x a).pending = s.pending := by
  obtain ⟨src, ts, h⟩ := s.changeAdmission_only x a
  rw [h]
  rfl

theorem State.acceptOffer_pending (d : Deliv) (o : Offer) : (s.acceptOffer d o).pending = s.pending := by
  obtain ⟨src, ses, h⟩ := s.acceptOffer_only d o
  rw [h]
  rfl

theorem State.giveBack_pending (d : Deliv) (o : Offer) (n : Nat) : (s.giveBack d o n).pending = s.pending := by
  obtain ⟨src, ses, h⟩ := s.giveBack_only d o n
  rw [h]
  rfl

theorem State.closeSession_pending (d : Deliv) : (s.closeSession d).pending = s.pending := by
  obtain ⟨src, h, -⟩ := s.closeSession_only d
  rw [h]
  rfl

theorem State.stallSession_pending (d : Deliv) (p : Params) (dn : Byte) : (s.stallSession d p dn).pending = s.pending := by
  obtain ⟨src, h⟩ := s.stallSession_only d p dn
  rw [h]
  rfl

theorem State.startAckDeadline_pending (d : Deliv) (dn : Byte) : (s.startAckDeadline d dn).pending = s.pending := by
  obtain ⟨v, h⟩ := s.startAckDeadline_only d dn
  rw [h]
  rfl

theorem State.resetLink_pending (hello : Option Cause) : (s.resetLink hello).pending = s.pending := rfl

theorem State.resetAll_pending (tick : Option Instant) (hello : Option Cause) :
    (s.resetAll tick hello).pending = s.pending := by
  simp [State.resetAll, State.resetLines, State.resetLink_pending]

theorem State.heldInReset_pending (p : Phase) : (s.heldInReset p).pending = s.pending := s.resetAll_pending none none

theorem State.endReset_pending (c : Cause) (br1 br0 : Bool) : (s.endReset c br1 br0).pending = s.pending := by
  simp only [State.endReset, State.setLinkRate_pending, State.setPhase_pending, State.resetAll_pending]

theorem State.takeReset_pending (scope : Scope) : (s.takeReset scope).pending = s.pending := by
  cases scope with
  | full => rw [State.takeReset, State.resetFull, State.resetAll_pending]
  | delivery =>
    obtain ⟨ts, a, h⟩ := s.resetDelivery_only
    simp [State.takeReset, h, State.resetLink_pending]

theorem State.takeExpiries_pending (es : List (TimerId × Tick)) : (s.takeExpiries es).pending = s.pending := by
  obtain ⟨src, a, h⟩ := s.takeExpiries_only es
  rw [h]
  rfl

theorem State.takeExpiry_pending (e : TimerId × Tick) : (s.takeExpiry e).pending = s.pending := s.takeExpiries_pending [e]

theorem State.flushExpiries_pending : s.flushExpiries.pending = s.pending :=
  State.takeExpiries_pending (s.setDueExpiries []) _

theorem State.tickOnce_pending : s.tickOnce.pending = s.pending :=
  (State.takeExpiries_pending s.flushExpiries.advanceTick _).trans s.flushExpiries_pending

theorem State.ticks_pending (n : Nat) (s : State) : (State.ticks n s).pending = s.pending := by
  induction n generalizing s with
  | zero => rfl
  | succ n ih => exact (ih s.tickOnce).trans s.tickOnce_pending

theorem State.tickFor_pending (k : TimerId) : (s.tickFor k).pending = s.pending :=
  (State.takeExpiry_pending (s.flushExpiries.advanceTick.setDueExpiries _) _).trans s.flushExpiries_pending

theorem State.changeLevel_pending (n : LineId) (level : Bool) : (s.changeLevel n level).pending = s.pending := by
  obtain ⟨ts, a, h⟩ := s.levelTaken_only n level
  rw [State.changeLevel_eq, h]
  rfl

theorem State.sampleLines_pending (levels : BitVec 24) (ns : List LineId) (s : State) :
    (ns.foldl (fun t n => t.sampleLine levels n) s).pending = s.pending := by
  induction ns generalizing s with
  | nil => rfl
  | cons n ns ih =>
    obtain ⟨a, -, -, -, h⟩ := s.sampleLine_eq_reported levels n
    rw [List.foldl_cons, ih, h]
    rfl

theorem State.samplesInReset_pending (levels : BitVec 24) (ns : List LineId) :
    (ns.foldl (fun t n => t.sampleInReset levels n) s).pending = s.pending := by
  obtain ⟨ls, h⟩ := State.sampleInReset_foldl_only levels ns s
  rw [h]
  rfl
end

/-! ## Requests leave the queue -/

theorem onDelivery_pending {s : State} {f : Deliv → List Byte → State → Answer}
    (h : ∀ d payload, (f d payload s).next.pending = s.pending) (σ : SessId) (payload : List Byte) :
    (onDelivery f σ payload s).next.pending = s.pending := by
  unfold onDelivery
  split
  · exact h _ _
  · rfl

/-- An owner writes blocks of the part, and none of them holds the queue. -/
theorem Request.owner_pending (r : Request) (σ : SessId) (payload : List Byte) (s : State) :
    (r.owner σ payload s).next.pending = s.pending := by
  cases r
  case setAdmission =>
    simp only [Request.owner, ownSetAdmission]
    split
    · rfl
    · exact s.changeAdmission_pending _ _
  case snapshot =>
    simp only [Request.owner, ownSnapshot]
    split
    · rfl
    · exact s.flushExpiries_pending
  case close =>
    refine onDelivery_pending (fun d payload => ?_) σ payload
    split
    · rfl
    all_goals exact s.closeSession_pending d
  case accept =>
    refine onDelivery_pending (fun d payload => ?_) σ payload
    dsimp only
    split
    · rfl
    · split
      · rfl
      · rfl
      · split
        · rfl
        · exact s.acceptOffer_pending d _
  case returnOffer =>
    refine onDelivery_pending (fun d payload => ?_) σ payload
    dsimp only
    split
    · rfl
    · split
      · rfl
      · rfl
      · split
        · rfl
        · exact s.giveBack_pending d _ _
  case configSource | configLine | configTimer | startTimer | stopTimer | setTimebase | setAlert | reset =>
    simp only [Request.owner, ownConfigSource, ownConfigLine, ownConfigTimer, ownStartTimer, ownStopTimer, ownSetTimebase,
      ownSetAlert, ownReset]
    repeat' split
    all_goals rfl
  case querySource | queryLines | queryTimer | readTime | querySession | readCapture | discardCapture =>
    simp only [Request.owner, ownQuerySource, ownQueryLines, ownQueryTimer, ownReadTime, ownQuerySession, ownReadCapture,
      ownDiscardCapture]
    repeat' split
    all_goals rfl
  case openSession | setSession | resume | done | doneTop =>
    refine onDelivery_pending (fun d payload => ?_) σ payload
    dsimp only
    repeat' split
    all_goals rfl

theorem ownerOfCode_pending (type : Byte) (σ : SessId) (payload : List Byte) (s : State) :
    (ownerOfCode type σ payload s).next.pending = s.pending := by
  unfold ownerOfCode
  cases Request.ofCode type with
  | some r => exact r.owner_pending σ payload s
  | none => rfl

section
variable {owner : Owner} (h : ∀ σ payload (t : State), (owner σ payload t).next.pending = t.pending) (s : State)
include h

/-- An execution answers from the cache or by BAD_SESSION, which write the link alone, or by the owner. -/
theorem State.execute_pending (slot : SlotId) (f : ReqFrame) : (s.execute owner slot f).pending = s.pending := by
  unfold State.execute
  split
  · dsimp only
    split
    · rfl
    · unfold answerOf
      split
      · rfl
      · exact h _ _ s
  · rfl

theorem State.goodFrame_pending (f : ReqFrame) : (s.goodFrame owner f).pending = s.pending := by
  unfold State.goodFrame
  dsimp only
  split
  · split
    · rfl
    · split
      · rfl
      · exact State.execute_pending h _ _ f
  · rfl
end

theorem State.anyGoodFrame_pending (s : State) (f : ReqFrame) : (s.anyGoodFrame f).pending = s.pending :=
  s.goodFrame_pending (ownerOfCode_pending f.type) f

/-! ## Characters and frames leave the queue -/

/-- Every character but one that completes a good frame moves the receiver alone (R156, R157). -/
theorem State.takeCharacter_pending (s : State) (v : Byte) : (s.takeCharacter v).pending = s.pending := by
  unfold State.takeCharacter
  dsimp only
  split
  · split <;> rfl
  · split <;> rfl
  · rfl
  · rfl
  · split <;> rfl
  · split <;> rfl
  · rfl
  · split
    · exact s.anyGoodFrame_pending _
    · rfl

/-- A poll writes the session it serves, and the claimed source with the alert output if the offer is new (R39, R40). -/
theorem State.poll_pending (s : State) (ds : List Deliv) : (s.poll ds).pending = s.pending := by
  obtain ⟨h, -⟩ | ⟨d, -, o, s', ha, h⟩ := s.poll_cases ds
  · rw [h]
  · rw [h]
    obtain ⟨-, ⟨q, -, -, rfl⟩ | ⟨x, -, -, -, rfl⟩⟩ := State.pollAnswer_cases ha
    all_goals rfl

theorem State.pickFrame_pending (s : State) : s.pickFrame.pending = s.pending := by
  unfold State.pickFrame
  split
  · rfl
  · split
    · rfl
    · split
      · rfl
      · split
        · rfl
        · exact s.poll_pending _

theorem State.replyEnded_pending (s : State) (slot : SlotId) (starts : Bool) (order : EndOrder) :
    (s.replyEnded slot starts order).pending = s.pending := by
  unfold State.replyEnded
  split
  · exact (State.pickFrame_pending _).trans (State.takeReset_pending _ _)
  · cases order
    · exact (s.releaseSlot slot).pickFrame_pending
    · exact s.pickFrame_pending

theorem State.frameEnded_pending (s : State) (kind : TxKind) (order : EndOrder) :
    (s.frameEnded kind order).pending = s.pending := by
  cases kind with
  | reply slot starts => exact s.frameGone.replyEnded_pending slot starts order
  | evt d dn => exact (State.pickFrame_pending _).trans (s.frameGone.startAckDeadline_pending d dn)
  | hello | link | stall => exact s.frameGone.pickFrame_pending

/-! ## Commands complete -/

/-- In the state `s` a command that answers `o` completes: it is no fault and not refused, and it leaves the queue. -/
def State.Completes (s : State) (o : Host.Outcome State Fault Refusal) : Prop := ∃ t, o = .next t ∧ t.pending = s.pending

section
variable {s t : State}

theorem State.Completes.next (h : t.pending = s.pending) : s.Completes (.next t) := ⟨t, rfl, h⟩

/-- A happening the state gives no ground for (log entry 6). -/
theorem State.Completes.idle : s.Completes (.next s) := .next rfl

/-- A command that does one thing under its condition and nothing otherwise. -/
theorem State.Completes.ite {p : Prop} [Decidable p] (h : t.pending = s.pending) :
    s.Completes (if p then .next t else .next s) := by
  split
  · exact .next h
  · exact .idle
end

section
variable (s : State)

theorem Request.completes (r : Request) (sess tag : Byte) (payload : List Byte) :
    s.Completes (exec (r.command sess tag payload) s) :=
  r.exec_command s sess tag payload ▸ .next (s.goodFrame_pending r.owner_pending _)

theorem execAckDeadlineExpiry_completes (d : Deliv) (dn : Byte) : s.Completes (execAckDeadlineExpiry d dn s) := by
  unfold execAckDeadlineExpiry
  split
  · rename_i p o due _ _ _
    dsimp only
    split
    · exact .next rfl
    · exact .next ((s.reach due).stallSession_pending d p dn)
  · exact .idle

theorem execTimerExpiry_completes (k : TimerId) : s.Completes (execTimerExpiry k s) := by
  unfold execTimerExpiry
  split
  · split
    · exact .next (State.takeExpiry_pending (s.setDueExpiries _) _)
    · exact .ite ((State.tickFor_pending _ k).trans (State.ticks_pending _ s))
  · exact .idle

theorem execLineSample_completes (levels : BitVec 24) : s.Completes (execLineSample levels s) := by
  unfold execLineSample
  dsimp only
  split
  · exact .next (State.sampleLines_pending levels _ _)
  · exact .next (State.samplesInReset_pending _ levels _)

theorem execPowerOnResetEnd_completes (br1 br0 : Bool) : s.Completes (execPowerOnResetEnd br1 br0 s) := by
  unfold execPowerOnResetEnd
  split
  · exact .next (State.endReset_pending _ .power br1 br0)
  all_goals exact .next rfl

theorem execRstnAssert_completes : s.Completes (execRstnAssert s) := by
  unfold execRstnAssert
  split
  · exact .next (s.heldInReset_pending _)
  all_goals exact .next rfl

theorem execRstnRelease_completes (br1 br0 : Bool) : s.Completes (execRstnRelease br1 br0 s) := by
  unfold execRstnRelease
  split
  · exact .next (s.endReset_pending .pin br1 br0)
  · split
    · exact .next (s.endReset_pending .power br1 br0)
    · exact .next rfl
  all_goals exact .idle

theorem execCharacterCompleted_completes (v : Byte) (moment : CharacterMoment) :
    s.Completes (execCharacterCompleted v moment s) := by
  unfold execCharacterCompleted
  split
  · split
    · exact .next rfl
    · exact .next (s.takeCharacter_pending v)
    · split
      · exact .idle
      · exact .next rfl
  · exact .idle

theorem exec_completes (c : Instr) : s.Completes (exec c s) := by
  cases c with
  | configSource => exact Request.completes s .configSource _ _ _
  | setAdmit => exact Request.completes s .setAdmission _ _ _
  | configLine => exact Request.completes s .configLine _ _ _
  | configTimer => exact Request.completes s .configTimer _ _ _
  | startTimer => exact Request.completes s .startTimer _ _ _
  | stopTimer => exact Request.completes s .stopTimer _ _ _
  | setTimebase => exact Request.completes s .setTimebase _ _ _
  | setAlert => exact Request.completes s .setAlert _ _ _
  | reset => exact Request.completes s .reset _ _ _
  | querySource => exact Request.completes s .querySource _ _ _
  | queryLines => exact Request.completes s .queryLines _ _ _
  | queryTimer => exact Request.completes s .queryTimer _ _ _
  | readTime => exact Request.completes s .readTime _ _ _
  | querySession => exact Request.completes s .querySession _ _ _
  | snapshot => exact Request.completes s .snapshot _ _ _
  | readCapture => exact Request.completes s .readCapture _ _ _
  | discardCapture => exact Request.completes s .discardCapture _ _ _
  | openSession => exact Request.completes s .openSession _ _ _
  | close => exact Request.completes s .close _ _ _
  | setSession => exact Request.completes s .setSession _ _ _
  | resume => exact Request.completes s .resume _ _ _
  | accept => exact Request.completes s .accept _ _ _
  | returnOffer => exact Request.completes s .returnOffer _ _ _
  | done => exact Request.completes s .done _ _ _
  | doneTop => exact Request.completes s .doneTop _ _ _
  | unknownType => exact .next (s.anyGoodFrame_pending _)
  | overrun => exact .ite rfl
  | frameFault cause => cases cause <;> exact .ite rfl
  | gapExceeded =>
    simp only [exec, execGapExceeded]
    split
    · exact .next rfl
    · exact .idle
  | pick => exact .ite s.pickFrame_pending
  | endOfFrame order =>
    simp only [exec, execEndOfFrame]
    split
    · exact .next (s.frameEnded_pending _ order)
    · exact .idle
  | ackDeadlineExpiry d dn => exact execAckDeadlineExpiry_completes s d dn
  | holdExpiry x =>
    simp only [exec, execHoldExpiry]
    split
    · exact .next rfl
    · exact .idle
  | renewalGapEnd =>
    simp only [exec, execRenewalGapEnd]
    split
    · exact .next rfl
    · exact .idle
  | tick => exact .ite s.tickOnce_pending
  | timerExpiry k => exact execTimerExpiry_completes s k
  | occurrence n level => exact .ite (s.changeLevel_pending n level)
  | assertion n =>
    simp only [exec, execAssertion]
    split
    · exact .ite (s.changeLevel_pending n _)
    · exact .idle
  | deassertion n =>
    simp only [exec, execDeassertion]
    split
    · exact .ite (s.changeLevel_pending n _)
    · exact .idle
  | powerOn => exact .next (s.heldInReset_pending _)
  | powerOnResetEnd br1 br0 => exact execPowerOnResetEnd_completes s br1 br0
  | rstnAssert => exact execRstnAssert_completes s
  | rstnRelease br1 br0 => exact execRstnRelease_completes s br1 br0
  | lineSample levels => exact execLineSample_completes s levels
  | characterCompleted v moment => exact execCharacterCompleted_completes s v moment
end

/-- Settles O2: a request is the good frame of its type, which writes the blocks of the link and what its owner writes; the
other commands act through operations on the blocks of the part. None of them faults, is refused, or writes the queue. -/
theorem everyCommandCompletes : Obligations.EveryCommandCompletes := fun c s => exec_completes s c

end Sys2Proof.Machine
end
